-- ==== Sys2Proof/Word.lean ====
section
/-! DEFINITION. The word types of the Govrena GVN 7120 model: plain bit vectors of the widths the spec gives. -/

namespace Sys2Proof

/-- One byte of a frame or of a table entry image (section 0.4.1). -/
abbrev Byte := BitVec 8

/-- A 16-bit field: a message tag (R165), the bits of one card's 16 outputs (R175), a check (R176). -/
abbrev Word16 := BitVec 16

/-- A 32-bit field: a sweep number (section 1.2), a statistic (R22, R116, R140, R171), an identity code (R6), a bank CRC (R155). -/
abbrev Word32 := BitVec 32

/-- A value of the 48-bit time base (R101), and so every stamp of the part (section 0.4.4). -/
abbrev Stamp := BitVec 48

/-- A 6-byte Ethernet address (R162). -/
abbrev Mac := BitVec 48

end Sys2Proof
end

