-- ==== Sys2Proof/Syntax.lean ====
section
/-! DEFINITION. The commands of the 7120: one constructor for each row of spec/opcode_table.json, in the table's order.
The table gives its rows no operand fields. An event that comes from outside carries what it brings (a level, a frame's
bytes); a desk message's own fields lie in the received frame, and its row is the taking of that message (R163). -/

namespace Sys2Proof

/-- The steps of the part, each whole and indivisible (95_what_each_step_holds.md). -/
inductive Instr where
  /-- POWER_ON (R173): the ADDR straps (R162), the OUTEN pin's level (R120) and the PHY's link report (R174) as they stand. -/
  | powerOn (straps : Byte) (outen : Bool) (link : Bool)
  /-- RESET_PIN (R173). -/
  | resetPin
  /-- OUTEN_CHANGE (R120): the pin's new level, true for high. -/
  | outenChange (high : Bool)
  /-- LINK_STATUS_CHANGE (R162): the PHY's report, true for up. -/
  | linkStatusChange (up : Bool)
  /-- SWEEP_DUE (R1). -/
  | sweepDue
  /-- ENTER_DOWN (R18). -/
  | enterDown
  /-- RETRY_WAIT_EXPIRY (R18). -/
  | retryWaitExpiry
  /-- RESTART_SURVEY_DELAY (R23). -/
  | restartSurveyDelay
  /-- LOOP_IN_FRAME (R7): the bytes that arrive at LOOP IN (R175). -/
  | loopInFrame (frame : List Byte)
  /-- CARD_OUTAGE_UNKNOWN (R43): the card position, and the stamp of the event that made the condition hold (R44). -/
  | cardOutageUnknown (position : Nat) (stamp : Stamp)
  /-- DEBOUNCE_SETTLE (R41): the mapped input, and the sweep time of the read that settles it. -/
  | debounceSettle (input : Nat) (sweepTime : Stamp)
  /-- MEASUREMENT_COMPLETE (R62): the sweep time of the report that completes the eighth cycle (R67). -/
  | measurementComplete (sweepTime : Stamp)
  /-- FLASHER_STOPPED (R65): the sweep time of the report at which the reference is judged (R67). -/
  | flasherStopped (sweepTime : Stamp)
  /-- TRANSIT_COUNT_OUT (R72): the pair, and the sweep time of the read at which the count ran out (R77). -/
  | transitCountOut (pair : Nat) (sweepTime : Stamp)
  /-- STEP_TIMING (R129). -/
  | stepTiming
  /-- PROOF_TIME_EXPIRY (R130). -/
  | proofTimeExpiry
  /-- WATCHDOG_EXPIRY (R119). -/
  | watchdogExpiry
  /-- REPORT_PERIOD_EXPIRY (R110). -/
  | reportPeriodExpiry
  /-- CHECK_COMPLETION (R154). -/
  | checkCompletion
  /-- DESK_FRAME_RECEIVED (R162): the Ethernet frame from its destination address to its FCS. -/
  | deskFrameReceived (frame : List Byte)
  /-- FRAME_SEND (R164). -/
  | frameSend
  /-- UNKNOWN_KIND (R165): a message of unknown kind is taken from the head of the receive queue. -/
  | unknownKind
  /-- IDENTIFY (R169), taken from the head of the receive queue (R163), as are all that follow. -/
  | identify
  /-- READ_STATUS (R170). -/
  | readStatus
  /-- READ_STATISTICS (R171). -/
  | readStatistics
  /-- CLEAR_STATISTICS (R171). -/
  | clearStatistics
  /-- RESTART (R172). -/
  | restart
  /-- WRITE_TABLE (R146). -/
  | writeTable
  /-- READ_TABLE (R147). -/
  | readTable
  /-- COPY_ACTIVE (R148). -/
  | copyActive
  /-- CLEAR_STANDBY (R149). -/
  | clearStandby
  /-- CHECK_TABLES (R150). -/
  | checkTables
  /-- SWITCH_TABLES (R156). -/
  | switchTables
  /-- SET_TIME (R102). -/
  | setTime
  /-- FORCE_INPUT (R48). -/
  | forceInput
  /-- RELEASE_INPUT (R49). -/
  | releaseInput
  /-- READMIT_CARD (R21). -/
  | readmitCard
  /-- RESURVEY (R20). -/
  | resurvey
  /-- MEASURE_FLASHER (R63). -/
  | measureFlasher
  /-- CLEAR_OUTPUT_BLOCK (R135). -/
  | clearOutputBlock
  /-- KEEPALIVE (R119). -/
  | keepalive
  /-- OPERATE (R126). -/
  | operate
  /-- CANCEL (R132). -/
  | cancel
deriving DecidableEq, Repr

end Sys2Proof
end

