-- ==== Sys2Proof/Config.lean ====
section
/-! DEFINITION. What the spec leaves open and the model does not choose: constants with no body, so that no proof can see a
value. Each is named in the assumption log. -/

namespace Sys2Proof.Config

/-- How many milliseconds the check of a bank takes (R150 gives only the bound of 250 ms); the argument is the number of the
open value drawn (`Clock.drawn`). Log entry 6. -/
opaque checkDuration : Nat → Nat

/-- Which of the events that fall due in one millisecond is taken first (R7, R110, R119 and R136 allow every order); the
argument is the part's own millisecond count. Log entry 5. -/
opaque eventOrder : Nat → Nat

/-- The bytes with which the MAC fills a short frame up to the least Ethernet length (R178 names the padding and gives it no
value); the argument is the byte's offset. Log entry 7. -/
opaque padByte : Nat → Byte

/-- The four bytes READ_STATUS shows for a time since the last matching keepalive that passes 2^32 - 1 ms (R179 gives the field
four bytes and no rule for a longer time). Log entry 8. -/
opaque longAge : Nat → Word32

end Sys2Proof.Config
end

