-- ==== Sys2Proof/Machine/Bytes.lean ====
section
/-! DEFINITION. Byte order (section 0.4.1: most significant byte first) and the two checksum procedures (R176, R183). -/

namespace Sys2Proof.Machine

/-- The byte at offset `i`; 0 beyond the end. -/
def byteAt (bs : List Byte) (i : Nat) : Byte := bs.getD i 0

/-- The number whose bytes are `bs`, most significant first (section 0.4.1). -/
def beNat (bs : List Byte) : Nat := bs.foldl (fun acc b => acc * 256 + b.toNat) 0

/-- The field of `n` bytes at offset `i`, read most significant byte first. -/
def fieldAt (bs : List Byte) (i n : Nat) : Nat := beNat ((bs.drop i).take n)

/-- The low `width` bytes of `n`, most significant first. -/
def toBytes : Nat → Nat → List Byte
  | 0, _ => []
  | width + 1, n => BitVec.ofNat 8 (n / 256 ^ width) :: toBytes width n

/-- The low `width` bytes of `n`, least significant first (the FCS field, R162). -/
def toBytesLsbFirst : Nat → Nat → List Byte
  | 0, _ => []
  | width + 1, n => BitVec.ofNat 8 n :: toBytesLsbFirst width (n / 256)

/-- One bit divided into the 16-bit remainder by 0x1021 (R176). -/
def crc16Bit (r : Word16) (bit : Bool) : Word16 :=
  if r.msb != bit then (r <<< 1) ^^^ 0x1021#16 else r <<< 1

/-- One byte, from its most significant bit to its least (R176). -/
def crc16Byte (r : Word16) (b : Byte) : Word16 :=
  [7, 6, 5, 4, 3, 2, 1, 0].foldl (fun r k => crc16Bit r (b.getLsbD k)) r

/-- The report check and the sweep check: preset to 0xFFFF, no complement at the end (R176). -/
def crc16 (bs : List Byte) : Word16 := bs.foldl crc16Byte 0xFFFF#16

/-- One bit divided into the 32-bit remainder by the reflected polynomial 0xEDB88320 (R183). -/
def crc32Bit (r : Word32) (bit : Bool) : Word32 :=
  if r.getLsbD 0 != bit then (r >>> 1) ^^^ 0xEDB88320#32 else r >>> 1

/-- One byte, from its least significant bit to its most (R183). -/
def crc32Byte (r : Word32) (b : Byte) : Word32 :=
  [0, 1, 2, 3, 4, 5, 6, 7].foldl (fun r k => crc32Bit r (b.getLsbD k)) r

/-- The bank CRC and the FCS: preset to all ones, complemented at the end (R155, R162, R183). -/
def crc32 (bs : List Byte) : Word32 := ~~~ (bs.foldl crc32Byte 0xFFFFFFFF#32)

/-- One byte that is 1 for true (flags, levels and condition values, R179). -/
def flagByte (b : Bool) : Byte := if b then 1 else 0

end Sys2Proof.Machine
end

