-- ==== Sys2Proof/Machine/State.lean ====
section
/-! DEFINITION. Every piece of state the spec gives the 7120, block by block (section 0.2), as plain data, and the state after
power-on (R173). Views that the spec computes from other state (the output command image, R128; an input's underlying quality,
section 3.2; the source lists, R83) are functions of Machine/ (log entry 22), not second copies. -/

namespace Sys2Proof.Machine

/-- The machine never stops with a fault: the spec gives every command an effect in every state. Safe. -/
inductive Fault where
deriving DecidableEq, Repr

/-- Why a command has no meaning. -/
inductive Refusal where
  /-- Raised by `exec` alone, for a row of the table whose meaning is not written. Safe: the model stops. -/
  | notModelled (mnemonic : String)
deriving DecidableEq, Repr

/-! ### Contacts, qualities, causes (section 0.4.3) -/

/-- A read or debounced contact value: OPEN or CLOSED (R36). -/
inductive ContactValue where
  | opened
  | closed
deriving DecidableEq, Repr

/-- A settled value (R38): OPEN, CLOSED or FLASHING. -/
inductive Settled where
  | opened
  | closed
  | flashing
deriving DecidableEq, Repr

/-- The qualities, from best to worst (section 0.4.3). -/
inductive Quality where
  | good
  | forced
  | fault
  | unknown
deriving DecidableEq, Repr

/-- The cause of a change (R93). -/
inductive Cause where
  | input (i : Nat)
  | pair (f : Nat)
  | condition (c : Nat)
  | card (p : Nat)
  | force
  | tableSwitch
deriving DecidableEq, Repr

/-- The kinds of source of a term (section 6.1). -/
inductive SourceKind where
  | input
  | pair
  | condition
deriving DecidableEq, Repr

/-- One source of a term or of a proof. -/
structure Source where
  kind : SourceKind
  index : Nat
deriving DecidableEq, Repr

/-! ### Loop controller (chapter 1) -/

/-- The four loop states (section 1.7). -/
inductive LoopState where
  | idle
  | survey
  | running
  | down
deriving DecidableEq, Repr

/-- A position's judged state (section 1.4). -/
inductive Judged where
  | notExpected
  | active
  | wrongCard
  | missing
  | isolated
deriving DecidableEq, Repr

/-- The kinds of sweep (R1). -/
inductive SweepKind where
  | survey
  | read
deriving DecidableEq, Repr

/-- A card as it names itself: its type byte (R175) and its identity code. -/
structure Card where
  cardType : Byte
  identity : Word32
deriving DecidableEq, Repr

/-- One of the 32 records of the card position table (section 1.4). -/
structure PositionRecord where
  judged : Judged
  surveyed : Option Card
  missed : Nat
  supplyLow : Bool
  score : Nat
  /-- The corrupt-reports statistic of the position (R22). -/
  corrupt : Word32
deriving DecidableEq, Repr

/-- A sweep sent and not yet returned or judged lost (section 1.2). -/
structure Sweep where
  kind : SweepKind
  number : Word32
  phase : Nat
  mask : Word32
  time : Stamp
deriving DecidableEq, Repr

/-- The state of the loop controller. -/
structure LoopController where
  state : LoopState
  /-- Milliseconds until the sweep timer expires, while it runs (section 1.2). -/
  sweepTimer : Option Nat
  /-- Milliseconds until the first survey sweep after a restart with keep-tables (R23). -/
  restartDelay : Option Nat
  /-- Milliseconds of the 1,000 ms retry wait still to run, in DOWN (R18). -/
  retryWait : Option Nat
  inFlight : Option Sweep
  sweepNumber : Word32
  lastCompleted : Word32
  /-- The phase the next sweep will carry, 0 to 3. -/
  phase : Nat
  lostCount : Nat
  /-- The card list held from the previous clean survey sweep (R15): the cards at positions 0, 1, … in order. -/
  heldList : Option (List Card)
  excess : Bool
  pendingResurvey : Bool
  /-- The positions whose readmission is pending (R21), rising. -/
  pendingReadmit : List Nat
  positions : List PositionRecord
  sweepsSent : Word32
  sweepsLost : Word32
  upTime : Word32
  /-- The model's own field: the bytes that last left at LOOP OUT (R2, R175). -/
  loopOut : List Byte
deriving DecidableEq, Repr

/-! ### Contact filter (chapters 3 and 4) -/

/-- The run data of a flash-classified input whose debounced value is held (R54). -/
structure RunData where
  start : Stamp
  length : Nat
  outlasted : Bool
  openStart : Bool
  /-- The qualifying count h, 0 to 2. -/
  qualifying : Nat
  flashStart : Stamp
deriving DecidableEq, Repr

/-- The filter state of one mapped input (section 3.2). Its underlying quality is GOOD while `debounced` is held and
UNKNOWN while it is absent. -/
structure InputState where
  debounced : Option ContactValue
  stamp : Stamp
  candidate : Option ContactValue
  count : Nat
  firstSeen : Stamp
  settled : Option Settled
  run : Option RunData
deriving DecidableEq, Repr

/-- The contact filter: the mapped inputs of the active bank with their state, in mapped input order, and the forced list in
the order of adding (R47). -/
structure ContactFilter where
  inputs : List (Nat × InputState)
  forced : List (Nat × ContactValue)
deriving DecidableEq, Repr

/-! ### Flasher monitor (section 4.4) -/

/-- The state of the flasher monitor. -/
structure FlasherMonitor where
  /-- The period in use P, in milliseconds. -/
  period : Option Nat
  /-- The since-rise count w. -/
  sinceRise : Option Nat
  anchored : Bool
  cycles : Nat
  readSum : Nat
  lastMeasured : Option Nat
  measuring : Bool
  fault : Bool
  stopped : Bool
  abandoned : Bool
deriving DecidableEq, Repr

/-! ### Pair unit (chapter 5) -/

/-- The judged state of a relay (section 5.1). -/
inductive PairState where
  | up
  | down
  | transit
  | openFault
  | closedFault
  | unknown
deriving DecidableEq, Repr

/-- The state of one pair (section 5.1). -/
structure PairRecord where
  state : PairState
  transit : Nat
  stamp : Stamp
  quality : Quality
deriving DecidableEq, Repr

/-! ### Object evaluator (chapter 6) -/

/-- A term's current value and quality, with the stamp and cause of its latest change (R83, R85). -/
structure TermState where
  source : Source
  value : Option Nat
  quality : Quality
  stamp : Stamp
  cause : Cause
deriving DecidableEq, Repr

/-- An entry of the indication image (R95). -/
structure ImageEntry where
  indication : Byte
  quality : Quality
deriving DecidableEq, Repr

/-- The eight conditions, 0 to 7 in this order (section 6.2). -/
structure Conditions where
  loopRunning : Bool
  authority : Bool
  flasherOk : Bool
  queueNormal : Bool
  outen : Bool
  outputsHealthy : Bool
  timeValid : Bool
  cardsHealthy : Bool
deriving DecidableEq, Repr

/-- One object in use: its terms in term order and its image entry. Its place in the list is its number. -/
structure ObjectState where
  terms : List TermState
  entry : ImageEntry
deriving DecidableEq, Repr

/-- The object evaluator. -/
structure ObjectEvaluator where
  conditions : Conditions
  objects : List ObjectState
deriving DecidableEq, Repr

/-! ### Report unit (chapter 7) -/

/-- The records of the report queue (R103). -/
inductive Record where
  | change (object : Nat) (indication : Byte) (quality : Quality) (stamp : Stamp) (cause : Cause)
  | resync (stamp : Stamp) (lost : Word32) (firstLost lastLost : Option Stamp)
  | timeSet (stamp old : Stamp)
  | tableSwitch (stamp : Stamp) (crc : Word32)
  | restart (stamp : Stamp) (keepTables : Bool)
deriving DecidableEq, Repr

/-- The queue states (R104). -/
inductive QueueState where
  | normal
  | overrun
deriving DecidableEq, Repr

/-- The state of the report unit. -/
structure ReportUnit where
  timeBase : Stamp
  timeValid : Bool
  queue : List Record
  queueState : QueueState
  lostCount : Word32
  firstLost : Option Stamp
  lastLost : Option Stamp
  /-- Milliseconds until the report period timer expires, while it runs (R109). -/
  timer : Option Nat
  frameSequence : Word32
  slicePointer : Nat
  framesSent : Word32
  changesLost : Word32
  markersLost : Word32
deriving DecidableEq, Repr

/-! ### Request engine (chapter 8) -/

/-- The reason set of authority (R118): each field is true while its condition fails. -/
structure Reasons where
  noBank : Bool
  loopNotRunning : Bool
  changeoverNotDesk : Bool
  keepaliveMissing : Bool
  issueMismatch : Bool
  outenLow : Bool
deriving DecidableEq, Repr

/-- Where a step of a running request stands (section 8.3). -/
inductive StepState where
  | waiting
  | on
  | done
deriving DecidableEq, Repr

/-- The state of an occupied slot (section 8.3). -/
inductive SlotState where
  | running
  | proving
deriving DecidableEq, Repr

/-- An occupied request slot (section 8.3). -/
structure Slot where
  tag : Word16
  point : Nat
  state : SlotState
  accepted : Stamp
  count : Nat
  steps : List StepState
deriving DecidableEq, Repr

/-- The results of an outcome record (R125), in the order of their codes (R180). -/
inductive RequestResult where
  | proved
  | done
  | notProved
  | cancelled
  | abortedAuthority
  | abortedOutputFault
  | abortedTableSwitch
  | notAuthorised
  | undefinedPoint
  | duplicateTag
  | outputBlocked
  | outputBusy
  | noSlot
  | noSuchRequest
deriving DecidableEq, Repr

/-- An outcome record (R125). -/
structure OutcomeRecord where
  tag : Word16
  point : Option Nat
  result : RequestResult
  stamp : Stamp
  reasons : Option Reasons
deriving DecidableEq, Repr

/-- What the request engine keeps of one output's carrying (R133): the carried state and the grace count. -/
structure Carried where
  state : Option Bool
  grace : Nat
deriving DecidableEq, Repr

/-- A proof source with its current value and quality (R123). -/
structure ProofSource where
  source : Source
  value : Option Nat
  quality : Quality
deriving DecidableEq, Repr

/-- The state of the request engine. Outputs are keyed by 16 × position + output. -/
structure RequestEngine where
  authority : Bool
  reasons : Reasons
  /-- The part's own millisecond count at the last matching keepalive. -/
  lastKeepalive : Option Nat
  expired : Bool
  mismatch : Bool
  /-- The changeover pair's state and quality as last reported (section 8.1); absent while there is none. -/
  changeover : Option (PairState × Quality)
  /-- The level of the OUTEN pin, true for high (R120). -/
  outen : Bool
  slots : List (Option Slot)
  outcomes : List OutcomeRecord
  /-- The blocked-output set (R135), keys rising. -/
  blocked : List Nat
  /-- Carried state and grace of every output that a sweep has carried (R133), keys rising; an unlisted output is absent
  with grace 0. -/
  carried : List (Nat × Carried)
  proofs : List ProofSource
  discarded : Word32
deriving DecidableEq, Repr

/-! ### Table store (chapter 9) -/

/-- The two banks (R141). -/
inductive BankName where
  | a
  | b
deriving DecidableEq, Repr

/-- The nine table kinds, in the order of the serialisation (R143, R144). -/
inductive TableKind where
  | globals
  | positions
  | classes
  | contactMap
  | objects
  | indications
  | requestPoints
  | stations
  | issue
deriving DecidableEq, Repr

/-- The error kinds of the check, in the order of section 9.5.1. -/
inductive ErrorKind where
  | sweepPeriodRange
  | reportPeriodRange
  | queueLimitRange
  | objectCountRange
  | watchdogRange
  | phaseSet
  | outputCardPhases
  | mapPosition
  | mapInputRange
  | mapDuplicate
  | pairPartner
  | flashOnPair
  | flashTooFast
  | flashDebounce
  | flasherPeriodRange
  | flasherReference
  | changeover
  | termCount
  | termSource
  | rowRange
  | stepCount
  | stepOutput
  | stepSameOutput
  | stepHoldZero
  | proofSource
  | proofTime
  | stationList
  | issueFormat
deriving DecidableEq, Repr

/-- An error finding (R152). -/
structure Finding where
  error : ErrorKind
  kind : TableKind
  index : Nat
deriving DecidableEq, Repr

/-- A CLAMPED finding (R29, R152). -/
structure Warning where
  kind : TableKind
  index : Nat
deriving DecidableEq, Repr

/-- The check result that a checked bank holds (R154), its bank CRC among it. -/
structure CheckResult where
  errorCount : Nat
  firstError : Option Finding
  warningCount : Nat
  firstWarning : Option Warning
  crc : Word32
deriving DecidableEq, Repr

/-- The three counts of reads of a class at one read interval (R28). -/
structure ReadCounts where
  toClosed : Nat
  toOpen : Nat
  transit : Nat
deriving DecidableEq, Repr

/-- A class's counts at the read intervals 1, 2 and 4 (R28). -/
structure ClassCounts where
  r1 : ReadCounts
  r2 : ReadCounts
  r4 : ReadCounts
deriving DecidableEq, Repr

/-- A defined request point's counts of sweeps (R28): start delay and hold of each step, and the proof time. -/
structure PointCounts where
  steps : List (Nat × Nat)
  proof : Option Nat
deriving DecidableEq, Repr

/-- The count set of a bank (R28): the 32 classes in order, the defined points by number, the keepalive watchdog time and the
nominal flasher period in milliseconds. -/
structure CountSet where
  classes : List ClassCounts
  points : List (Nat × PointCounts)
  watchdog : Nat
  nominal : Nat
deriving DecidableEq, Repr

/-- The bank states with what each holds besides the images (R141). -/
inductive BankState where
  | empty
  | loading
  | checking
  | checkedGood (result : CheckResult) (counts : CountSet)
  | checkedBad (result : CheckResult)
deriving DecidableEq, Repr

/-- The bytes of a bank's serialisation (R144), 0 to 64751, as (address, byte) pairs in canonical form: addresses strictly
rising and no zero byte listed. An unlisted address reads as 0, the contents the spec gives an EMPTY bank (R141). -/
abbrev Memory := List Host.Cell

/-- One bank (R141). -/
structure Bank where
  memory : Memory
  state : BankState
deriving DecidableEq, Repr

/-- The check context (R150). `remaining` is the model's own: the milliseconds the check still takes. -/
structure CheckContext where
  bank : BankName
  sender : Mac
  tag : Word16
  errors : Nat
  warnings : Nat
  firstError : Option Finding
  firstWarning : Option Warning
  remaining : Nat
deriving DecidableEq, Repr

/-- The table store (R141). The selection NONE is `none`. -/
structure TableStore where
  bankA : Bank
  bankB : Bank
  selection : Option BankName
  check : Option CheckContext
  switchPending : Bool
deriving DecidableEq, Repr

/-! ### Desk port (chapter 10) -/

/-- A desk message in the receive queue (R162): its source address and its bytes after the EtherType. -/
structure RxMessage where
  source : Mac
  body : List Byte
deriving DecidableEq, Repr

/-- A frame handed for sending (R164): its destination, message kind, tag and content (R177). -/
structure TxFrame where
  destination : Mac
  kind : Byte
  tag : Word16
  content : List Byte
deriving DecidableEq, Repr

/-- The state of the desk port. -/
structure DeskPort where
  ownAddress : Mac
  linkUp : Bool
  receiveQueue : List RxMessage
  sendList : List TxFrame
  fcsErrors : Word32
  malformed : Word32
  overflows : Word32
  controlDropped : Word32
  notSent : Word32
  /-- The model's own field: the Ethernet frame that the MAC last sent, from its destination address to its FCS. -/
  wire : List Byte
deriving DecidableEq, Repr

/-- The part's own millisecond count (R101, R119). `drawn` is the model's own: how many open values have been drawn. -/
structure Clock where
  own : Nat
  drawn : Nat
deriving DecidableEq, Repr

/-- The whole part, block by block, and the queue of the commands that wait. -/
structure State where
  loop : LoopController
  filter : ContactFilter
  flasher : FlasherMonitor
  pairs : List (Nat × PairRecord)
  evaluator : ObjectEvaluator
  report : ReportUnit
  request : RequestEngine
  tables : TableStore
  desk : DeskPort
  clock : Clock
  pending : List Instr
deriving DecidableEq, Repr

/-! ### Reset values -/

/-- A position after power-on (R23). -/
def PositionRecord.reset : PositionRecord :=
  { judged := .notExpected, surveyed := none, missed := 0, supplyLow := false, score := 0, corrupt := 0 }

/-- The loop controller after power-on (R23). -/
def LoopController.reset : LoopController :=
  { state := .idle, sweepTimer := none, restartDelay := none, retryWait := none, inFlight := none, sweepNumber := 0,
    lastCompleted := 0, phase := 0, lostCount := 0, heldList := none, excess := false, pendingResurvey := false,
    pendingReadmit := [], positions := List.replicate 32 PositionRecord.reset, sweepsSent := 0, sweepsLost := 0, upTime := 0,
    loopOut := [] }

/-- The contact filter with no bank active (R52). -/
def ContactFilter.reset : ContactFilter := { inputs := [], forced := [] }

/-- The flasher monitor with no bank active (R68). -/
def FlasherMonitor.reset : FlasherMonitor :=
  { period := none, sinceRise := none, anchored := false, cycles := 0, readSum := 0, lastMeasured := none, measuring := false,
    fault := false, stopped := false, abandoned := false }

/-- The conditions after power-on with the OUTEN pin low (R98). -/
def Conditions.reset : Conditions :=
  { loopRunning := false, authority := false, flasherOk := true, queueNormal := true, outen := false, outputsHealthy := true,
    timeValid := false, cardsHealthy := false }

/-- The evaluator with no objects in use (R98). -/
def ObjectEvaluator.reset : ObjectEvaluator := { conditions := Conditions.reset, objects := [] }

/-- The report unit after power-on (R117): the RESTART marker with keep-tables false is its only record. -/
def ReportUnit.reset : ReportUnit :=
  { timeBase := 0, timeValid := false, queue := [.restart 0 false], queueState := .normal, lostCount := 0, firstLost := none,
    lastLost := none, timer := none, frameSequence := 0, slicePointer := 0, framesSent := 0, changesLost := 0, markersLost := 0 }

/-- The reason set with no bank active and the OUTEN pin low (R118). -/
def Reasons.reset : Reasons :=
  { noBank := true, loopNotRunning := true, changeoverNotDesk := true, keepaliveMissing := true, issueMismatch := false,
    outenLow := true }

/-- The request engine after power-on with the OUTEN pin low (R139). -/
def RequestEngine.reset : RequestEngine :=
  { authority := false, reasons := Reasons.reset, lastKeepalive := none, expired := false, mismatch := false, changeover := none,
    outen := false, slots := List.replicate 8 none, outcomes := [], blocked := [], carried := [], proofs := [], discarded := 0 }

/-- An EMPTY bank (R142). -/
def Bank.reset : Bank := { memory := [], state := .empty }

/-- The table store after power-on (R160). -/
def TableStore.reset : TableStore :=
  { bankA := Bank.reset, bankB := Bank.reset, selection := none, check := none, switchPending := false }

/-- The desk port after power-on (R174). DESIGN CHOICE (log entry 1): the ADDR straps stand at 0x00 and the link is down. -/
def DeskPort.reset : DeskPort :=
  { ownAddress := 0x024F50540000#48, linkUp := false, receiveQueue := [], sendList := [], fcsErrors := 0, malformed := 0,
    overflows := 0, controlDropped := 0, notSent := 0, wire := [] }

/-- The part right after power-on (R173), with the pins and the PHY as log entry 1 says: straps 0x00, OUTEN low, link down. -/
def State.reset : State :=
  { loop := LoopController.reset, filter := ContactFilter.reset, flasher := FlasherMonitor.reset, pairs := [],
    evaluator := ObjectEvaluator.reset, report := ReportUnit.reset, request := RequestEngine.reset, tables := TableStore.reset,
    desk := DeskPort.reset, clock := { own := 0, drawn := 0 }, pending := [] }

end Sys2Proof.Machine
end

