-- ==== Sys2Proof/Machine/Ops.lean ====
section
/-! DEFINITION. The named operations over the state: keyed lists, the bank memory (R144), the active bank (R141), the
counters, and the event that a command builds (its state and the round of term changes it hands on, R89). -/

namespace Sys2Proof.Machine

/-! ### Keyed lists, keys rising -/

/-- The value at a key, if the list holds one. -/
def keyedGet {α : Type} (k : Nat) : List (Nat × α) → Option α
  | [] => none
  | (k', x) :: rest => if k' = k then some x else keyedGet k rest

/-- The list with the value at a key put or replaced, keys kept rising. -/
def keyedPut {α : Type} (k : Nat) (x : α) : List (Nat × α) → List (Nat × α)
  | [] => [(k, x)]
  | (k', y) :: rest => if k < k' then (k, x) :: (k', y) :: rest else if k' = k then (k, x) :: rest else (k', y) :: keyedPut k x rest

/-- A set of numbers as a rising list, with one more member. -/
def setInsert (k : Nat) : List Nat → List Nat
  | [] => [k]
  | k' :: rest => if k < k' then k :: k' :: rest else if k' = k then k' :: rest else k' :: setInsert k rest

/-! ### The bank memory (R144) -/

/-- The byte at an address of the serialisation; 0 where none is listed (R141: an EMPTY bank's images are all zeros). -/
def Memory.read (m : Memory) (a : Nat) : Byte :=
  match m with
  | [] => 0
  | (k, b) :: rest => if k = a then b else Memory.read rest a

/-- The memory with one byte replaced, in canonical form. -/
def Memory.write (m : Memory) (a : Nat) (v : Byte) : Memory :=
  match m with
  | [] => if v = 0 then [] else [(a, v)]
  | (k, b) :: rest =>
    if a < k then (if v = 0 then (k, b) :: rest else (a, v) :: (k, b) :: rest)
    else if k = a then (if v = 0 then rest else (a, v) :: rest)
    else (k, b) :: Memory.write rest a v

/-- The memory with the bytes `bs` stored from address `a` on. -/
def Memory.writeBytes (m : Memory) (a : Nat) : List Byte → Memory
  | [] => m
  | v :: rest => Memory.writeBytes (m.write a v) (a + 1) rest

/-- The `n` bytes from address `a` on. -/
def Memory.slice (m : Memory) (a n : Nat) : List Byte := (List.range n).map fun k => m.read (a + k)

/-- The canonical form of a bank memory: addresses strictly rising, no zero byte listed. -/
def Memory.wf : Memory → Bool
  | [] => true
  | (k, b) :: rest => decide (b ≠ 0) && rest.all (fun c => decide (k < c.1)) && Memory.wf rest

/-- The number of bytes of a bank's serialisation (R143, R144). -/
def serialisationLength : Nat := 64752

/-- The serialisation of a bank's images (R144). -/
def Memory.serialise (m : Memory) : List Byte := m.slice 0 serialisationLength

/-! ### Banks (R141) -/

/-- The code of a bank in READ_TABLE (R177) and of the selection (R178). -/
def BankName.code : BankName → Byte
  | .a => 1
  | .b => 2

/-- The bank of a name. -/
def TableStore.bank (t : TableStore) : BankName → Bank
  | .a => t.bankA
  | .b => t.bankB

/-- The table store with one bank replaced. -/
def TableStore.setBank (t : TableStore) (n : BankName) (b : Bank) : TableStore :=
  match n with
  | .a => { t with bankA := b }
  | .b => { t with bankB := b }

/-- The name of the standby bank: the one the selection does not name, and A with the selection NONE (R141). -/
def TableStore.standbyName (t : TableStore) : BankName :=
  match t.selection with
  | some .a => .b
  | some .b => .a
  | none => .a

/-- The standby bank (R141). -/
def TableStore.standby (t : TableStore) : Bank := t.bank t.standbyName

/-- The table store with the standby bank replaced. -/
def TableStore.setStandby (t : TableStore) (b : Bank) : TableStore := t.setBank t.standbyName b

/-- The bank that is active, if one is (R141). -/
def State.active? (s : State) : Option Bank := s.tables.selection.map s.tables.bank

/-- The counts of a bank that holds none. -/
def CountSet.none : CountSet := { classes := [], points := [], watchdog := 0, nominal := 0 }

/-- The count set a bank holds (R28). -/
def Bank.counts (b : Bank) : CountSet :=
  match b.state with
  | .checkedGood _ counts => counts
  | _ => CountSet.none

/-- The check result a bank holds (R141). -/
def Bank.result? (b : Bank) : Option CheckResult :=
  match b.state with
  | .checkedGood r _ => some r
  | .checkedBad r => some r
  | _ => Option.none

/-- The bank CRC a bank holds (R141). -/
def Bank.crc? (b : Bank) : Option Word32 := b.result?.map (·.crc)

/-- A table check is in progress (R150). -/
def State.checking (s : State) : Bool := s.tables.check.isSome

/-! ### Small updates -/

/-- The position record at `p`; past the table, a record as after power-on. -/
def LoopController.position (l : LoopController) (p : Nat) : PositionRecord := l.positions.getD p PositionRecord.reset

/-- The position table with one record changed. -/
def LoopController.modifyPosition (l : LoopController) (p : Nat) (f : PositionRecord → PositionRecord) : LoopController :=
  { l with positions := l.positions.modify p f }

/-- The time base as it stands (R101). -/
def State.now (s : State) : Stamp := s.report.timeBase

/-- The condition of a number, 0 to 7 (section 6.2). -/
def Conditions.get (c : Conditions) (n : Nat) : Bool :=
  match n with
  | 0 => c.loopRunning
  | 1 => c.authority
  | 2 => c.flasherOk
  | 3 => c.queueNormal
  | 4 => c.outen
  | 5 => c.outputsHealthy
  | 6 => c.timeValid
  | 7 => c.cardsHealthy
  | _ => false

/-- The conditions with one of them set. -/
def Conditions.put (c : Conditions) (n : Nat) (v : Bool) : Conditions :=
  match n with
  | 0 => { c with loopRunning := v }
  | 1 => { c with authority := v }
  | 2 => { c with flasherOk := v }
  | 3 => { c with queueNormal := v }
  | 4 => { c with outen := v }
  | 5 => { c with outputsHealthy := v }
  | 6 => { c with timeValid := v }
  | 7 => { c with cardsHealthy := v }
  | _ => c

/-- The state with the conditions replaced. -/
def State.withConditions (s : State) (c : Conditions) : State := { s with evaluator := { s.evaluator with conditions := c } }

/-! ### The event a command builds (R89) -/

/-- A change of a source, as it reaches the object evaluator (R85). -/
structure TermChange where
  source : Source
  value : Option Nat
  quality : Quality
  stamp : Stamp
  cause : Cause
deriving DecidableEq, Repr

/-- The notice of a mapped input whose presented value or quality has changed (R38). -/
structure InputNotice where
  input : Nat
  value : Option Settled
  quality : Quality
  stamp : Stamp
  cause : Cause
deriving DecidableEq, Repr

/-- The notice of a pair whose state or quality has changed (R78). -/
structure PairNotice where
  pair : Nat
  state : PairState
  quality : Quality
  stamp : Stamp
  cause : Cause
deriving DecidableEq, Repr

/-- An event under way: the state, the round it hands to the evaluator (R89), and the latest stamp among the conditions of
authority that it has changed (R118). -/
structure Event where
  st : State
  round : List TermChange
  authorityStamp : Option Stamp

/-- An event that has done nothing yet. -/
def Event.start (s : State) : Event := { st := s, round := [], authorityStamp := none }

/-- The event with its state changed. -/
def Event.onState (e : Event) (f : State → State) : Event := { e with st := f e.st }

/-- The later of two stamps: the greater time base value (R92, R77, R118). -/
def laterStamp (a b : Stamp) : Stamp := if a.toNat < b.toNat then b else a

/-- An owner hands on a condition's value; a value that stands is not handed on (R88). -/
def Event.setCondition (e : Event) (c : Nat) (v : Bool) (stamp : Stamp) : Event :=
  if e.st.evaluator.conditions.get c = v then e
  else
    { e with
      st := e.st.withConditions (e.st.evaluator.conditions.put c v),
      round := e.round ++ [{ source := ⟨.condition, c⟩, value := some v.toNat, quality := .good, stamp := stamp, cause := .condition c }] }

end Sys2Proof.Machine
end

