-- ==== Sys2Proof/Machine/Operands.lean ====
section
/-! DEFINITION. The operand forms: the table kinds with their images (R143, R181), the table entries as every block reads them,
the issue record (R145), and the fields of a desk message (R177, R178). -/

namespace Sys2Proof.Machine

/-! ### Table kinds (R143, R177) -/

/-- The table kind of a code (R177). -/
def tableKindOf (code : Nat) : Option TableKind :=
  match code with
  | 1 => some .globals
  | 2 => some .positions
  | 3 => some .classes
  | 4 => some .contactMap
  | 5 => some .objects
  | 6 => some .indications
  | 7 => some .requestPoints
  | 8 => some .stations
  | 9 => some .issue
  | _ => none

/-- The code of a table kind (R177). -/
def TableKind.code : TableKind → Nat
  | .globals => 1
  | .positions => 2
  | .classes => 3
  | .contactMap => 4
  | .objects => 5
  | .indications => 6
  | .requestPoints => 7
  | .stations => 8
  | .issue => 9

/-- The number of entries of a kind (R143). -/
def TableKind.entries : TableKind → Nat
  | .globals => 1
  | .positions => 32
  | .classes => 32
  | .contactMap => 2048
  | .objects => 1024
  | .indications => 32768
  | .requestPoints => 256
  | .stations => 4
  | .issue => 1

/-- The size of one entry of a kind in bytes (R143). -/
def TableKind.entrySize : TableKind → Nat
  | .globals => 32
  | .positions => 10
  | .classes => 4
  | .contactMap => 6
  | .objects => 14
  | .indications => 1
  | .requestPoints => 18
  | .stations => 8
  | .issue => 240

/-- Where a kind's image begins in the serialisation (R144): the images before it, placed end to end. -/
def TableKind.base : TableKind → Nat
  | .globals => 0
  | .positions => 32
  | .classes => 352
  | .contactMap => 480
  | .objects => 12768
  | .indications => 27104
  | .requestPoints => 59872
  | .stations => 64480
  | .issue => 64512

/-- Where an entry begins in the serialisation. -/
def TableKind.entryAt (k : TableKind) (index : Nat) : Nat := k.base + index * k.entrySize

/-- A field of an entry, as a number. -/
def Memory.entryField (m : Memory) (k : TableKind) (index offset size : Nat) : Nat :=
  beNat (m.slice (k.entryAt index + offset) size)

/-! ### GLOBALS (R144, R181) -/

/-- The sweep period T_s, in milliseconds. -/
def Memory.sweepPeriod (m : Memory) : Nat := m.entryField .globals 0 0 1

/-- The report period, in milliseconds. -/
def Memory.reportPeriod (m : Memory) : Nat := m.entryField .globals 0 1 2

/-- The queue limit L_q. -/
def Memory.queueLimit (m : Memory) : Nat := m.entryField .globals 0 3 2

/-- The object count n. -/
def Memory.objectCount (m : Memory) : Nat := m.entryField .globals 0 5 2

/-- The keepalive watchdog code. -/
def Memory.watchdogCode (m : Memory) : Nat := m.entryField .globals 0 7 1

/-- The flasher mode's code: 0 MANUAL, 1 AUTO, 2 ONE_SHOT. -/
def Memory.flasherModeCode (m : Memory) : Nat := m.entryField .globals 0 8 1

/-- The flasher period code P_t. -/
def Memory.flasherPeriodCode (m : Memory) : Nat := m.entryField .globals 0 9 1

/-- The flasher reference input as coded: 0xFFFF for none. -/
def Memory.referenceCode (m : Memory) : Nat := m.entryField .globals 0 10 2

/-- The flasher reference, if one is defined. -/
def Memory.reference? (m : Memory) : Option Nat :=
  if m.referenceCode = 0xFFFF then none else some m.referenceCode

/-- The changeover input (R80). -/
def Memory.changeover (m : Memory) : Nat := m.entryField .globals 0 12 2

/-- The desk destination address (R164). -/
def Memory.deskAddress (m : Memory) : Mac := BitVec.ofNat 48 (m.entryField .globals 0 14 6)

/-- The flasher modes (section 4.4). -/
inductive FlasherMode where
  | manual
  | auto
  | oneShot
deriving DecidableEq, Repr

/-- The flasher mode of a bank; a code outside the coding is never active (R182) and reads as MANUAL. -/
def Memory.flasherMode (m : Memory) : FlasherMode :=
  match m.flasherModeCode with
  | 1 => .auto
  | 2 => .oneShot
  | _ => .manual

/-! ### POSITIONS (R181) -/

/-- The expected type's code: 0 NONE, 1 INPUT_64, 2 OUTPUT_16. -/
def Memory.expectedType (m : Memory) (p : Nat) : Nat := m.entryField .positions p 0 1

/-- The phase set, bit k for phase k. -/
def Memory.phaseSet (m : Memory) (p : Nat) : Nat := m.entryField .positions p 1 1

/-- The identity value. -/
def Memory.identityValue (m : Memory) (p : Nat) : Word32 := BitVec.ofNat 32 (m.entryField .positions p 2 4)

/-- The identity mask. -/
def Memory.identityMask (m : Memory) (p : Nat) : Word32 := BitVec.ofNat 32 (m.entryField .positions p 6 4)

/-- A position that the bank expects: its expected type is not NONE (section 1.4). -/
def Memory.expected (m : Memory) (p : Nat) : Bool := decide (m.expectedType p ≠ 0)

/-- A card that matches a position's expected type and masked identity (R9, R16). -/
def Memory.matchesCard (m : Memory) (p : Nat) (c : Card) : Bool :=
  decide (c.cardType.toNat = m.expectedType p) && decide (c.identity &&& m.identityMask p = m.identityValue p)

/-! ### CLASSES (R181) -/

/-- The class has the flash flag (R54). -/
def Memory.flashFlag (m : Memory) (c : Nat) : Bool := (m.entryField .classes c 3 1).testBit 0

/-! ### CONTACT_MAP (section 3.1, R181) -/

/-- How an input is used (section 3.1). -/
inductive Role where
  | unused
  | single
  | front
  | back
deriving DecidableEq, Repr

/-- A contact map entry. -/
structure MapEntry where
  position : Nat
  input : Nat
  cls : Nat
  role : Role
  inverted : Bool
  partner : Nat
deriving DecidableEq, Repr

/-- The role of its two bits (R181). -/
def roleOf (code : Nat) : Role :=
  match code % 4 with
  | 1 => .single
  | 2 => .front
  | 3 => .back
  | _ => .unused

/-- The entry of mapped input `i`. -/
def Memory.mapEntry (m : Memory) (i : Nat) : MapEntry :=
  let kind := m.entryField .contactMap i 2 1
  { position := m.entryField .contactMap i 0 1, input := m.entryField .contactMap i 1 1, cls := kind % 32,
    role := roleOf (kind / 32), inverted := kind.testBit 7, partner := m.entryField .contactMap i 3 2 }

/-- The inputs of a bank that are mapped (R35), in mapped input order. -/
def Memory.mappedInputs (m : Memory) : List Nat :=
  (List.range 2048).filter fun i => decide ((m.mapEntry i).role ≠ .unused)

/-- The pairs of a bank (R69), by their front input, in pair number order. -/
def Memory.pairNumbers (m : Memory) : List Nat :=
  (List.range 2048).filter fun i => decide ((m.mapEntry i).role = .front)

/-- The input is flash-classified (R54): SINGLE, of a class with the flash flag. -/
def Memory.flashClassified (m : Memory) (i : Nat) : Bool :=
  decide ((m.mapEntry i).role = .single) && m.flashFlag (m.mapEntry i).cls

/-! ### OBJECTS and INDICATIONS (section 6.1, R181) -/

/-- A term of an object as coded: its source kind's code and its index. -/
structure TermEntry where
  kind : Nat
  index : Nat
deriving DecidableEq, Repr

/-- An object record. -/
structure ObjectEntry where
  termCount : Nat
  terms : List TermEntry
  rowBase : Nat
  fallback : Byte
deriving DecidableEq, Repr

/-- Term `k` of object `j` as coded. -/
def Memory.termEntry (m : Memory) (j k : Nat) : TermEntry :=
  let w := m.entryField .objects j (2 + 2 * k) 2
  { kind := w / 16384, index := w % 16384 }

/-- Object record `j`; its terms are those in use, at most four. -/
def Memory.objectEntry (m : Memory) (j : Nat) : ObjectEntry :=
  let k := m.entryField .objects j 1 1
  { termCount := k, terms := (List.range (min k 4)).map (m.termEntry j), rowBase := m.entryField .objects j 10 2,
    fallback := BitVec.ofNat 8 (m.entryField .objects j 12 1) }

/-- The source of a term; the kind's code 3 is never active (R84). -/
def TermEntry.source (t : TermEntry) : Source :=
  match t.kind with
  | 0 => ⟨.input, t.index⟩
  | 1 => ⟨.pair, t.index⟩
  | _ => ⟨.condition, t.index⟩

/-- The indication table's entry. -/
def Memory.indication (m : Memory) (k : Nat) : Byte := m.read (TableKind.indications.entryAt k)

/-! ### REQUEST_POINTS (section 8.2, R181) -/

/-- A step of a request point. -/
structure StepEntry where
  position : Nat
  output : Nat
  delayCode : Nat
  holdCode : Nat
deriving DecidableEq, Repr

/-- Step `k` of point `q`, k from 0. -/
def Memory.stepEntry (m : Memory) (q k : Nat) : StepEntry :=
  { position := m.entryField .requestPoints q (1 + 4 * k) 1, output := m.entryField .requestPoints q (2 + 4 * k) 1,
    delayCode := m.entryField .requestPoints q (3 + 4 * k) 1, holdCode := m.entryField .requestPoints q (4 + 4 * k) 1 }

/-- The step count of point `q`. -/
def Memory.stepCount (m : Memory) (q : Nat) : Nat := m.entryField .requestPoints q 0 1

/-- The point is defined: its step count is 1 to 3 (R122). -/
def Memory.defined (m : Memory) (q : Nat) : Bool := decide (1 ≤ m.stepCount q) && decide (m.stepCount q ≤ 3)

/-- The steps of point `q`, at most three. -/
def Memory.pointSteps (m : Memory) (q : Nat) : List StepEntry := (List.range (min (m.stepCount q) 3)).map (m.stepEntry q)

/-- The proof source kind's code: 0 none, 1 INPUT, 2 PAIR. -/
def Memory.proofKind (m : Memory) (q : Nat) : Nat := m.entryField .requestPoints q 13 1

/-- The proof index. -/
def Memory.proofIndex (m : Memory) (q : Nat) : Nat := m.entryField .requestPoints q 14 2

/-- The proof's expected value. -/
def Memory.proofValue (m : Memory) (q : Nat) : Nat := m.entryField .requestPoints q 16 1

/-- The proof time code. -/
def Memory.proofTimeCode (m : Memory) (q : Nat) : Nat := m.entryField .requestPoints q 17 1

/-- The proof source of point `q`, if it has a proof. -/
def Memory.proofSource? (m : Memory) (q : Nat) : Option Source :=
  match m.proofKind q with
  | 0 => none
  | 1 => some ⟨.input, m.proofIndex q⟩
  | _ => some ⟨.pair, m.proofIndex q⟩

/-- The key of an output (card position, output). -/
def outputKey (p o : Nat) : Nat := 16 * p + o

/-- The outputs that a point's steps name. -/
def Memory.pointOutputs (m : Memory) (q : Nat) : List Nat := (m.pointSteps q).map fun st => outputKey st.position st.output

/-! ### STATIONS (R166, R181) -/

/-- The address of a STATIONS entry. -/
def Memory.stationAddress (m : Memory) (k : Nat) : Mac := BitVec.ofNat 48 (m.entryField .stations k 0 6)

/-- The rights code of a STATIONS entry. -/
def Memory.stationRights (m : Memory) (k : Nat) : Nat := m.entryField .stations k 6 1

/-- The address of the CONTROL station (R166): the first entry whose rights are CONTROL. -/
def Memory.controlAddress? (m : Memory) : Option Mac :=
  ((List.range 4).find? fun k => decide (m.stationRights k = 3)).map m.stationAddress

/-! ### The issue record (R145) -/

/-- An item of the issue record. -/
structure IssueItem where
  keyword : Nat
  value : List Byte
deriving DecidableEq, Repr

/-- The items of an ISSUE entry, in load order, and whether every length is 0 to 60 and every value ends in the entry. -/
def readIssue : Nat → List Byte → List IssueItem × Bool
  | 0, _ => ([], true)
  | fuel + 1, bs =>
    if bs.length < 3 then ([], true)
    else if fieldAt bs 0 2 = 0 then ([], true)
    else if 60 < fieldAt bs 2 1 then ([], false)
    else if bs.length < 3 + fieldAt bs 2 1 then ([], false)
    else
      let rest := readIssue fuel (bs.drop (3 + fieldAt bs 2 1))
      ({ keyword := fieldAt bs 0 2, value := (bs.drop 3).take (fieldAt bs 2 1) } :: rest.1, rest.2)

/-- The issue record of a bank: 240 bytes hold at most 80 items. -/
def Memory.issue (m : Memory) : List IssueItem × Bool := readIssue 80 (m.slice (TableKind.issue.entryAt 0) 240)

/-- The keyword SI, as its two ASCII letters (DEDUCED, log entry 9). -/
def keywordSI : Nat := 0x5349

/-- The keyword TI, as its two ASCII letters (DEDUCED, log entry 9). -/
def keywordTI : Nat := 0x5449

/-- The value of the first item of a keyword. -/
def Memory.issueValue? (m : Memory) (keyword : Nat) : Option (List Byte) :=
  (m.issue.1.find? fun it => decide (it.keyword = keyword)).map (·.value)

/-! ### Desk messages (R177, R178) -/

/-- A message as the desk port takes it: its sender, its tag and its content. -/
structure Taken where
  source : Mac
  tag : Word16
  content : List Byte
deriving DecidableEq, Repr

/-- The message kind's byte. -/
def RxMessage.kind (x : RxMessage) : Byte := byteAt x.body 0

/-- The content: the bytes after the content length field, up to the number it gives, or the bytes present; with the field cut
short the length is 0 (R178). -/
def RxMessage.content (x : RxMessage) : List Byte :=
  if x.body.length < 5 then [] else (x.body.drop 5).take (fieldAt x.body 3 2)

/-- The message as taken. -/
def RxMessage.taken (x : RxMessage) : Taken :=
  { source := x.source, tag := BitVec.ofNat 16 (fieldAt x.body 1 2), content := x.content }

/-- The message kinds of the table of R177 that the desk sends. -/
def knownKinds : List Byte :=
  [0x01, 0x02, 0x03, 0x04, 0x05, 0x10, 0x11, 0x12, 0x13, 0x14, 0x15, 0x20, 0x21, 0x22, 0x23, 0x24, 0x25, 0x26, 0x40, 0x41, 0x42]

end Sys2Proof.Machine
end

