-- ==== Sys2Proof/Machine/Times.lean ====
section
/-! DEFINITION. Time codes and read counts (chapter 2): decoding (R24), the conversion to counts (R26, R27), the count set
(R28), the read intervals (R3) and the flash run bounds (R31). -/

namespace Sys2Proof.Machine

/-- The time in milliseconds of a time code (R24). -/
def decodeTime (c : Nat) : Nat :=
  if c ≤ 100 then 2 * c else if c ≤ 200 then 200 + 20 * (c - 100) else 2200 + 200 * (c - 200)

/-- The count before clamping: ceil(t / T) (R26). -/
def rawCount (t period : Nat) : Nat := (t + period - 1) / period

/-- The count of a time, clamped to 255 (R26). -/
def timeCount (t period : Nat) : Nat := min 255 (rawCount t period)

/-- The debounce count of a code: code 0 gives 1 (R27). -/
def debounceCountOf (code period : Nat) : Nat := if code = 0 then 1 else timeCount (decodeTime code) period

/-- The transit count, start delay count, hold count or proof count of a code: code 0 gives 0 for the transit and the start delay (R27).
DESIGN CHOICE (log entry 41): it gives 0 for the hold and the proof time too, where R26 converts no code 0 and R27 names only the check
error; a bank with such a code holds no count set, and of the two only the hold reaches a result, in `Memory.latestEnd`. -/
def plainCountOf (code period : Nat) : Nat := if code = 0 then 0 else timeCount (decodeTime code) period

/-- The code's count is clamped (R26). -/
def clampedCode (code period : Nat) : Bool := decide (code ≠ 0) && decide (255 < rawCount (decodeTime code) period)

/-- The read interval of a phase set of R3's table. -/
def phaseInterval (phases : Nat) : Option Nat :=
  match phases with
  | 15 => some 1
  | 5 => some 2
  | 10 => some 2
  | 1 => some 4
  | 2 => some 4
  | 4 => some 4
  | 8 => some 4
  | _ => none

/-- The read interval of a position of a bank (R3); a phase set outside R3's table is never active and reads as 1. -/
def Memory.readInterval (m : Memory) (p : Nat) : Nat := (phaseInterval (m.phaseSet p)).getD 1

/-- The read period T_r of a position, in milliseconds (R3). -/
def Memory.readPeriod (m : Memory) (p : Nat) : Nat := m.sweepPeriod * m.readInterval p

/-- The counts of one class at one read interval (R28). -/
def Memory.readCounts (m : Memory) (c r : Nat) : ReadCounts :=
  let period := m.sweepPeriod * r
  { toClosed := debounceCountOf (m.entryField .classes c 0 1) period,
    toOpen := debounceCountOf (m.entryField .classes c 1 1) period,
    transit := plainCountOf (m.entryField .classes c 2 1) period }

/-- The counts of one defined point (R28). -/
def Memory.pointCounts (m : Memory) (q : Nat) : PointCounts :=
  { steps := (m.pointSteps q).map fun st => (plainCountOf st.delayCode m.sweepPeriod, plainCountOf st.holdCode m.sweepPeriod),
    proof := if m.proofKind q = 0 then none else some (plainCountOf (m.proofTimeCode q) m.sweepPeriod) }

/-- The count set that the check computes (R28). -/
def Memory.countSet (m : Memory) : CountSet :=
  { classes := (List.range 32).map fun c => { r1 := m.readCounts c 1, r2 := m.readCounts c 2, r4 := m.readCounts c 4 },
    points := ((List.range 256).filter m.defined).map fun q => (q, m.pointCounts q),
    watchdog := decodeTime m.watchdogCode,
    nominal := decodeTime m.flasherPeriodCode }

/-- The counts of a class that a bank holds none for. -/
def ReadCounts.none : ReadCounts := { toClosed := 1, toOpen := 1, transit := 0 }

/-- The counts a class uses at a read interval, from the count set (R28). -/
def CountSet.reads (cs : CountSet) (c r : Nat) : ReadCounts :=
  match cs.classes[c]? with
  | Option.none => ReadCounts.none
  | some k => if r = 1 then k.r1 else if r = 2 then k.r2 else k.r4

/-- The debounce count N(v) of an input with entry `e` for read value `v` (R37). -/
def Bank.debounceCount (b : Bank) (e : MapEntry) (v : ContactValue) : Nat :=
  let rc := b.counts.reads e.cls (b.memory.readInterval e.position)
  match v with
  | .closed => rc.toClosed
  | .opened => rc.toOpen

/-- The transit count N_t of the pair whose front input has entry `e` (section 5.1). -/
def Bank.transitCount (b : Bank) (e : MapEntry) : Nat := (b.counts.reads e.cls (b.memory.readInterval e.position)).transit

/-- The counts of a request point, from the count set. -/
def Bank.pointCounts (b : Bank) (q : Nat) : PointCounts := (keyedGet q b.counts.points).getD { steps := [], proof := none }

/-- A completed run of `l` reads qualifies: 3·P ≤ 8·D ≤ 5·P (R31). -/
def runQualifies (p readPeriod l : Nat) : Bool := decide (3 * p ≤ 8 * (l * readPeriod)) && decide (8 * (l * readPeriod) ≤ 5 * p)

/-- A run of certain length `l` outlasts: 8·D > 5·P (R31, R55). -/
def runOutlasts (p readPeriod l : Nat) : Bool := decide (5 * p < 8 * (l * readPeriod))

end Sys2Proof.Machine
end

