-- ==== Sys2Proof/Machine/Report.lean ====
section
/-! DEFINITION. The report queue (R104 to R108) and the object evaluator's rounds (R83 to R93): how an event's term changes become
image entries and change records. -/

namespace Sys2Proof.Machine

/-! ### The report queue -/

/-- A marker is offered to the queue: placed below 512 records, dropped and counted at 512 (R106). -/
def ReportUnit.offerMarker (r : ReportUnit) (m : Record) : ReportUnit :=
  if r.queue.length < 512 then { r with queue := r.queue ++ [m] } else { r with markersLost := r.markersLost + 1 }

/-- A 32-bit count that stops at its greatest value (R22, R104). -/
def stopAtGreatest (n : Word32) : Word32 := if n = 0xFFFFFFFF#32 then n else n + 1

/-- A CHANGE record of stamp `t` meets the queue under the queue limit (R105, R104: never past the capacity of 512). -/
def ReportUnit.takeChange (r : ReportUnit) (limit : Nat) (m : Record) (t : Stamp) : ReportUnit :=
  match r.queueState with
  | .normal =>
    if r.queue.length < limit ∧ r.queue.length < 512 then { r with queue := r.queue ++ [m] }
    else
      { r with queueState := .overrun, lostCount := 1, firstLost := some t, lastLost := some t, changesLost := r.changesLost + 1 }
  | .overrun => { r with lostCount := stopAtGreatest r.lostCount, lastLost := some t, changesLost := r.changesLost + 1 }

/-- The stamp a record carries. -/
def Record.stamp : Record → Stamp
  | .change _ _ _ t _ => t
  | .resync t _ _ _ => t
  | .timeSet t _ => t
  | .tableSwitch t _ => t
  | .restart t _ => t

/-- The CHANGE records of one round are taken one at a time, in order (R105). -/
def ReportUnit.takeChanges (r : ReportUnit) (limit : Nat) (ms : List Record) : ReportUnit :=
  ms.foldl (fun r m => r.takeChange limit m m.stamp) r

/-! ### Evaluation of an object -/

/-- The change a round makes to a source: the later one where it holds two (R89). -/
def lastChange (round : List TermChange) (src : Source) : Option TermChange :=
  (round.filter fun c => decide (c.source = src)).getLast?

/-- A term after a round (R85). -/
def TermState.take (round : List TermChange) (t : TermState) : TermState :=
  match lastChange round t.source with
  | none => t
  | some c => { t with value := c.value, quality := c.quality, stamp := c.stamp, cause := c.cause }

/-- The round changes the term (R89). -/
def TermState.touched (round : List TermChange) (t : TermState) : Bool := (lastChange round t.source).isSome

/-- The place of a quality in the order GOOD, FORCED, FAULT, UNKNOWN (section 0.4.3), which is also its code (R180). -/
def Quality.rank : Quality → Nat
  | .good => 0
  | .forced => 1
  | .fault => 2
  | .unknown => 3

/-- The worse of two qualities (section 0.4.3). -/
def Quality.worse (a b : Quality) : Quality := if a.rank < b.rank then b else a

/-- An object's quality: the worst of its terms' (R90). -/
def objectQuality (ts : List TermState) : Quality := ts.foldl (fun q t => q.worse t.quality) .good

/-- The combination index v_0 + 3·v_1 + 9·v_2 + 27·v_3 (R91). -/
def combinationIndex : List TermState → Nat
  | [] => 0
  | t :: ts => t.value.getD 0 + 3 * combinationIndex ts

/-- The indication and quality that an object's terms give (R90, R91). -/
def shownEntry (m : Memory) (o : ObjectEntry) (ts : List TermState) : ImageEntry :=
  match objectQuality ts with
  | .good => { indication := m.indication (o.rowBase + combinationIndex ts), quality := .good }
  | .forced => { indication := m.indication (o.rowBase + combinationIndex ts), quality := .forced }
  | .fault => { indication := o.fallback, quality := .fault }
  | .unknown => { indication := o.fallback, quality := .unknown }

/-- The term whose stamp is the latest, the lower-numbered one on equal stamps (R92). -/
def latestTerm : List TermState → Option TermState
  | [] => none
  | t :: ts =>
    match latestTerm ts with
    | none => some t
    | some u => if t.stamp.toNat < u.stamp.toNat then some u else some t

/-- One object evaluated for a round (R91, R92, R93): its new state, and its change record where its entry is replaced. -/
def evaluateObject (m : Memory) (round : List TermChange) (j : Nat) (o : ObjectState) : ObjectState × Option Record :=
  if o.terms.any (TermState.touched round) then
    let ts := o.terms.map (TermState.take round)
    let entry := shownEntry m (m.objectEntry j) ts
    if entry = o.entry then ({ o with terms := ts }, none)
    else
      match latestTerm (ts.filter (TermState.touched round)) with
      | none => ({ terms := ts, entry := entry }, none)
      | some t => ({ terms := ts, entry := entry }, some (.change j entry.indication entry.quality t.stamp t.cause))
  else (o, none)

/-- The objects from number `j` on evaluated for a round, in ascending object number (R89). -/
def evaluateFrom (m : Memory) (round : List TermChange) : Nat → List ObjectState → List ObjectState × List Record
  | _, [] => ([], [])
  | j, o :: os =>
    let r := evaluateObject m round j o
    let rest := evaluateFrom m round (j + 1) os
    (r.1 :: rest.1, r.2.toList ++ rest.2)

/-- A round is evaluated and its change records are handed to the report unit together (R89, R93, R105). -/
def State.runRound (s : State) (round : List TermChange) : State :=
  match s.active? with
  | none => s
  | some b =>
    let r := evaluateFrom b.memory round 0 s.evaluator.objects
    { s with
      evaluator := { s.evaluator with objects := r.1 },
      report := s.report.takeChanges b.memory.queueLimit r.2 }

/-- A change of QUEUE_NORMAL forms a round of its own, after the records of the round that caused it (R108). -/
def State.afterOverrun (before s : State) : State :=
  if before.report.queueState = .normal ∧ s.report.queueState = .overrun then
    let e := (Event.start s).setCondition 3 false s.now
    e.st.runRound e.round
  else s

/-- A round is complete (R89), and the entry to OVERRUN it may cause is handed on after it (R108). -/
def State.finishRound (s : State) (round : List TermChange) : State := s.afterOverrun (s.runRound round)

/-- The event ends: its round is complete. An event that changes no term forms no round (R89). -/
def Event.close (e : Event) : State := if e.round = [] then e.st else e.st.finishRound e.round

/-! ### The reset round (R97, R98) -/

/-- A term as a bank's taking up leaves it (R97): a condition at its value, an input or a pair UNKNOWN. -/
def resetTerm (c : Conditions) (stamp : Stamp) (causeOf : Source → Cause) (src : Source) : TermState :=
  match src.kind with
  | .condition => { source := src, value := some (c.get src.index).toNat, quality := .good, stamp := stamp, cause := causeOf src }
  | _ => { source := src, value := none, quality := .unknown, stamp := stamp, cause := causeOf src }

/-- Object `j` of the bank at its fallback and UNKNOWN, its terms as they stand at the reset (R97). -/
def resetObject (m : Memory) (c : Conditions) (stamp : Stamp) (causeOf : Source → Cause) (j : Nat) : ObjectState :=
  { terms := (m.objectEntry j).terms.map fun t => resetTerm c stamp causeOf t.source,
    entry := { indication := (m.objectEntry j).fallback, quality := .unknown } }

/-- The round in which every term of every object in use counts as changed (R97). -/
def resetRoundOf (objects : List ObjectState) : List TermChange :=
  objects.flatMap fun o => o.terms.map fun t =>
    { source := t.source, value := t.value, quality := t.quality, stamp := t.stamp, cause := t.cause }

/-- The image is built anew for bank `b`, every entry at (fallback, UNKNOWN), and the reset round is evaluated (R97, R98). DEDUCED (log
entry 37): an object whose terms are all conditions makes its record by R91, for the change from UNKNOWN to GOOD, also where its row
entry equals its fallback. -/
def State.resetImage (s : State) (b : Bank) (stamp : Stamp) (causeOf : Source → Cause) : State :=
  let objects := (List.range b.memory.objectCount).map (resetObject b.memory s.evaluator.conditions stamp causeOf)
  let s1 := { s with evaluator := { s.evaluator with objects := objects } }
  s1.finishRound (resetRoundOf objects)

end Sys2Proof.Machine
end

