-- ==== Sys2Proof/Machine/Flags.lean ====
section
/-! DEFINITION. Every flag the spec computes from other state: the outage condition of an input (R43), the derived conditions
LOOP_RUNNING (R86), CARDS_HEALTHY (R87) and FLASHER_OK (R67), and the reason set of authority (R118). -/

namespace Sys2Proof.Machine

/-- A condition of R43 holds for card position `p`: its unforced inputs are UNKNOWN. -/
def State.outage (s : State) (p : Nat) : Bool :=
  decide (s.loop.state = .idle) || decide (s.loop.state = .down) || decide ((s.loop.position p).judged ≠ .active)
    || decide (3 ≤ (s.loop.position p).missed) || (s.loop.position p).supplyLow

/-- An input's underlying quality: GOOD while a debounced value is held, UNKNOWN while it is absent (section 3.2). -/
def InputState.quality (st : InputState) : Quality := if st.debounced.isSome then .good else .unknown

/-- A contact value as a settled value. -/
def ContactValue.settled : ContactValue → Settled
  | .opened => .opened
  | .closed => .closed

/-- The value and quality that input `i` presents (R38): its forced value, or its settled value with its underlying quality. -/
def ContactFilter.presentedOf (f : ContactFilter) (i : Nat) (st : InputState) : Option Settled × Quality :=
  match keyedFind i f.forced with
  | some v => (some v.settled, .forced)
  | none => (st.settled, st.quality)
where
  /-- The forced value of an input; the list is kept in the order of adding (R47). -/
  keyedFind (i : Nat) : List (Nat × ContactValue) → Option ContactValue
    | [] => none
    | (k, v) :: rest => if k = i then some v else keyedFind i rest

/-- What mapped input `i` presents; an input with no filter state presents UNKNOWN. -/
def ContactFilter.presented (f : ContactFilter) (i : Nat) : Option Settled × Quality :=
  match keyedGet i f.inputs with
  | some st => f.presentedOf i st
  | none => (none, .unknown)

/-- LOOP_RUNNING (R86). -/
def State.loopRunning (s : State) : Bool := decide (s.loop.state = .running)

/-- CARDS_HEALTHY (R87). -/
def State.cardsHealthy (s : State) : Bool :=
  match s.active? with
  | none => false
  | some b => (List.range 32).all fun p =>
      !b.memory.expected p
        || (decide ((s.loop.position p).judged = .active) && decide ((s.loop.position p).missed < 3) && !(s.loop.position p).supplyLow)

/-- FLASHER_OK (R67). -/
def State.flasherOk (s : State) : Bool :=
  match s.active?.bind fun b => b.memory.reference? with
  | none => true
  | some i => decide ((s.filter.presented i).2 = .good) && !s.flasher.fault && !s.flasher.stopped

/-- The reason set (R118): each condition of authority that fails. -/
def State.reasonSet (s : State) : Reasons :=
  { noBank := s.active?.isNone,
    loopNotRunning := decide (s.loop.state ≠ .running),
    changeoverNotDesk := decide (s.request.changeover ≠ some (.up, .good)),
    keepaliveMissing := s.request.lastKeepalive.isNone || s.request.expired,
    issueMismatch := s.request.mismatch,
    outenLow := !s.request.outen }

/-- No condition of authority fails. -/
def Reasons.isEmpty (r : Reasons) : Bool :=
  !r.noBank && !r.loopNotRunning && !r.changeoverNotDesk && !r.keepaliveMissing && !r.issueMismatch && !r.outenLow

/-- The evaluator judges LOOP_RUNNING again (R86). -/
def Event.judgeLoop (e : Event) (stamp : Stamp) : Event := e.setCondition 0 e.st.loopRunning stamp

/-- The evaluator judges CARDS_HEALTHY again (R87). -/
def Event.judgeCards (e : Event) (stamp : Stamp) : Event := e.setCondition 7 e.st.cardsHealthy stamp

/-- The flasher monitor judges FLASHER_OK again (R67). -/
def Event.judgeFlasher (e : Event) (stamp : Stamp) : Event := e.setCondition 2 e.st.flasherOk stamp

end Sys2Proof.Machine
end

