-- ==== Sys2Proof/Machine/Request.lean ====
section
/-! DEFINITION. The request engine's shared operations (chapter 8): the output command image (R128), endings and the outcome
list (R124, R125), authority (R118, R121), proofs (R123, R131), step timing (R129, R130), readback (R133, R134). -/

namespace Sys2Proof.Machine

/-! ### Slots and outcomes -/

/-- The occupied slots, in slot order. -/
def RequestEngine.occupied (r : RequestEngine) : List Slot := r.slots.filterMap id

/-- The outcome list has a free place (R124). -/
def RequestEngine.freePlace (r : RequestEngine) : Bool := decide (r.outcomes.length + r.occupied.length < 16)

/-- An outcome record at the tail of the outcome list (R125). -/
def RequestEngine.place (r : RequestEngine) (o : OutcomeRecord) : RequestEngine := { r with outcomes := r.outcomes ++ [o] }

/-- The outcome record of an ending slot (R125). -/
def Slot.outcome (sl : Slot) (result : RequestResult) (stamp : Stamp) (reasons : Option Reasons) : OutcomeRecord :=
  { tag := sl.tag, point := some sl.point, result := result, stamp := stamp, reasons := reasons }

/-- The occupied slots that `which` picks end, in slot order: each is freed and its outcome placed in the same event (R125). -/
def RequestEngine.endSlots (r : RequestEngine) (which : Slot → Bool) (result : RequestResult) (stamp : Stamp)
    (reasons : Option Reasons) : RequestEngine :=
  { r with
    slots := r.slots.map fun o => o.filter fun sl => !which sl,
    outcomes := r.outcomes ++ (r.occupied.filter which).map fun sl => sl.outcome result stamp reasons }

/-- The number of the slot that holds the request of an outcome record; past the slots where none does. -/
def RequestEngine.slotOf (r : RequestEngine) (o : OutcomeRecord) : Nat := r.slots.findIdx fun s => s.any fun sl => decide (sl.tag = o.tag)

/-- The outcome records placed since `before` stand in the order of the slots that they end (R125), whatever the order of the endings
within the one event. -/
def RequestEngine.inSlotOrder (r before : RequestEngine) : RequestEngine :=
  { r with
    outcomes := r.outcomes.take before.outcomes.length
      ++ (r.outcomes.drop before.outcomes.length).insertionSort fun x y => before.slotOf x ≤ before.slotOf y }

/-- The state with the request engine changed. -/
def State.onRequest (s : State) (f : RequestEngine → RequestEngine) : State := { s with request := f s.request }

/-! ### The output command image (R128) -/

/-- The outputs for which a step of the slot is ON. -/
def Slot.onOutputs (m : Memory) (sl : Slot) : List Nat :=
  ((m.pointOutputs sl.point).zip sl.steps).filterMap fun x => if x.2 = .on then some x.1 else none

/-- The outputs that are commanded on: those for which a step of an occupied slot is ON (R128). -/
def State.commandedOn (s : State) : List Nat :=
  match s.active? with
  | none => []
  | some b => s.request.occupied.flatMap (Slot.onOutputs b.memory)

/-- The 16 bits of position `p`, bit j for output j, that a set of outputs holds (R175, R179). -/
def outputBits (keys : List Nat) (p : Nat) : Word16 :=
  BitVec.ofNat 16 (((List.range 16).map fun j => if keys.contains (outputKey p j) then 2 ^ j else 0).sum)

/-! ### Authority (R118, R121) -/

/-- The conditions of authority changed so far in the event change with `stamp` once more: the latest of their stamps (R118). -/
def Event.latestAuthorityStamp (e : Event) (stamp : Stamp) : Stamp :=
  match e.authorityStamp with
  | none => stamp
  | some t => laterStamp t stamp

/-- The round already hands on a change of AUTHORITY. -/
def Event.handsOnAuthority (e : Event) : Bool := e.round.any fun c => decide (c.source = ⟨.condition, 1⟩)

/-- Authority is judged again (R118). Where it does not hold, every occupied slot ends ABORTED_AUTHORITY with the reason set as
the judgement left it (R121). A change of AUTHORITY joins the round of the event with the latest stamp of the conditions that
the event has changed. -/
def Event.judgeAuthority (e : Event) (stamp : Stamp) : Event :=
  let reasons := e.st.reasonSet
  if reasons = e.st.request.reasons ∧ e.st.request.authority = reasons.isEmpty then e
  else
    let latest := e.latestAuthorityStamp stamp
    let s1 := e.st.onRequest fun r => { r with authority := reasons.isEmpty, reasons := reasons }
    let s2 := if reasons.isEmpty then s1 else s1.onRequest fun r => r.endSlots (fun _ => true) .abortedAuthority s1.now (some reasons)
    let e1 := { e with st := s2, authorityStamp := some latest }
    if e.handsOnAuthority then
      { e1 with
        st := s2.withConditions (s2.evaluator.conditions.put 1 reasons.isEmpty),
        round := e1.round ++ [⟨⟨.condition, 1⟩, some reasons.isEmpty.toNat, .good, latest, .condition 1⟩] }
    else e1.setCondition 1 reasons.isEmpty latest

/-! ### Proofs (R123, R131) -/

/-- A proof is met: its source shows the expected value with quality GOOD (R123). -/
def proofMet (expected : Nat) (value : Option Nat) (quality : Quality) : Bool := decide (value = some expected) && decide (quality = .good)

/-- The proof source `src` takes a notice's value and quality (R123). -/
def RequestEngine.noteProof (r : RequestEngine) (src : Source) (value : Option Nat) (quality : Quality) : RequestEngine :=
  { r with
    proofs := r.proofs.map fun (ps : ProofSource) =>
      if ps.source = src then { source := ps.source, value := value, quality := quality } else ps }

/-- A change notice of source `src` reaches the request engine: the proof source takes the value and quality, and every request
whose proof the notice makes met ends PROVED with the notice's stamp (R123, R131). -/
def State.takeProofNotice (s : State) (src : Source) (value : Option Nat) (quality : Quality) (stamp : Stamp) : State :=
  match s.active? with
  | none => s
  | some b =>
    s.onRequest fun r =>
      (r.noteProof src value quality).endSlots
        (fun sl => decide (b.memory.proofSource? sl.point = some src) && proofMet (b.memory.proofValue sl.point) value quality)
        .proved stamp none

/-- The proof sources of a bank, all UNKNOWN (R123). -/
def Memory.proofSources (m : Memory) : List ProofSource :=
  (((List.range 256).filter m.defined).filterMap m.proofSource?).dedup.map fun src => { source := src, value := none, quality := .unknown }

/-- The proof of point `q` is met as its source stands (R123). -/
def State.proofStands (s : State) (m : Memory) (q : Nat) : Bool :=
  match m.proofSource? q with
  | none => false
  | some src =>
    match s.request.proofs.find? fun ps => decide (ps.source = src) with
    | none => false
    | some ps => proofMet (m.proofValue q) ps.value ps.quality

/-! ### Step timing (R129, R130) -/

/-- A step after the slot's count stands at `c` (R129), with its start delay and hold counts. -/
def stepAfter (c : Nat) (dh : Nat × Nat) (st : StepState) : StepState :=
  match st with
  | .waiting => if c = dh.1 then .on else .waiting
  | .on => if c = dh.1 + dh.2 then .done else .on
  | .done => .done

/-- The slot's steps brought up to date with its count (R129). -/
def Slot.updateSteps (b : Bank) (sl : Slot) : Slot :=
  { sl with steps := List.zipWith (stepAfter sl.count) (b.pointCounts sl.point).steps sl.steps }

/-- Every step of the slot is DONE. -/
def Slot.allDone (sl : Slot) : Bool := sl.steps.all fun st => decide (st = .done)

/-- What follows from the steps and the count (R130): the ending, if the request ends. -/
def Slot.ending (b : Bank) (sl : Slot) : Option RequestResult :=
  if sl.allDone then
    match (b.pointCounts sl.point).proof with
    | none => some .done
    | some p => if sl.count < p then none else some .notProved
  else none

/-- The slot as it goes on (R130): PROVING once every step is DONE. -/
def Slot.goOn (sl : Slot) : Slot := if sl.allDone then { sl with state := .proving } else { sl with state := .running }

/-- Every occupied slot is changed by `f`, and then goes on or ends as R130 states, in slot order. -/
def RequestEngine.bringUpToDate (r : RequestEngine) (b : Bank) (f : Slot → Slot) (stamp : Stamp) : RequestEngine :=
  { r with
    slots := r.slots.map fun o => o.bind fun sl => if ((f sl).ending b).isSome then none else some (f sl).goOn,
    outcomes := r.outcomes ++ r.occupied.filterMap fun sl => ((f sl).ending b).map fun result => (f sl).outcome result stamp none }

/-! ### Carried states and readback (R133, R134) -/

/-- What is kept of an output; absent with grace 0 where no sweep has carried it (R133). -/
def RequestEngine.carriedOf (r : RequestEngine) (key : Nat) : Carried := (keyedGet key r.carried).getD { state := none, grace := 0 }

/-- A sweep carries output `key` in state `on` (R133). -/
def RequestEngine.carry (r : RequestEngine) (key : Nat) (on : Bool) : RequestEngine :=
  if (r.carriedOf key).state = some on then r else { r with carried := keyedPut key { state := some on, grace := 2 } r.carried }

/-- The readback of output `key` meets its grace (R134): it falls by 1 while it stands. -/
def RequestEngine.excuse (r : RequestEngine) (key : Nat) : RequestEngine :=
  { r with carried := keyedPut key { (r.carriedOf key) with grace := (r.carriedOf key).grace - 1 } r.carried }

/-- A readback that disagrees with the carried state (R134). -/
def Carried.mismatch (c : Carried) (readback : Bool) : Bool :=
  match c.state with
  | some on => decide (on ≠ readback)
  | none => false

/-- One output of an accepted report (R134): excused while its grace stands, and blocked at a mismatch. -/
def RequestEngine.checkOutput (r : RequestEngine) (key : Nat) (readback : Bool) : RequestEngine :=
  if 0 < (r.carriedOf key).grace then r.excuse key
  else if (r.carriedOf key).mismatch readback ∧ !r.blocked.contains key then { r with blocked := setInsert key r.blocked }
  else r

/-- The 16 outputs of output card `p` against the readbacks `values`, in output order (R134). -/
def RequestEngine.checkCard (r : RequestEngine) (p values : Nat) : RequestEngine :=
  (List.range 16).foldl (fun r o => r.checkOutput (outputKey p o) (values.testBit o)) r

/-- The slots whose points name an output that has joined the blocked-output set since `before` end ABORTED_OUTPUT_FAULT (R134), their
records in slot order, since one report ends them (R125). -/
def RequestEngine.endBlocked (r before : RequestEngine) (m : Memory) (sweepTime : Stamp) : RequestEngine :=
  r.endSlots (fun sl => (m.pointOutputs sl.point).any fun k => r.blocked.contains k && !before.blocked.contains k) .abortedOutputFault
    sweepTime none

/-- OUTPUTS_HEALTHY is 1 while the blocked-output set is empty (section 6.2); its owner judges it again. -/
def Event.judgeOutputs (e : Event) (stamp : Stamp) : Event := e.setCondition 5 e.st.request.blocked.isEmpty stamp

/-- The readbacks of an accepted report of output card `p` (R134). -/
def Event.checkReadbacks (e : Event) (m : Memory) (p : Nat) (values : Nat) (sweepTime : Stamp) : Event :=
  (e.onState fun s => s.onRequest fun r => (r.checkCard p values).endBlocked r m sweepTime).judgeOutputs sweepTime

end Sys2Proof.Machine
end

