-- ==== Sys2Proof/Machine/Filter.lean ====
section
/-! DEFINITION. The contact filter (chapter 3) with flash classification (chapter 4): what one read, one outage, one start does to
one input, and what an accepted report does to a card's inputs. -/

namespace Sys2Proof.Machine

/-- An input as a switch or a restart starts it (R51): UNKNOWN, no candidate, no run data. -/
def InputState.start : InputState :=
  { debounced := none, stamp := 0, candidate := none, count := 0, firstSeen := 0, settled := none, run := none }

/-- The read value of a card input through the entry's polarity (R36). -/
def MapEntry.readValue (e : MapEntry) (energised : Bool) : ContactValue := if energised = e.inverted then .opened else .closed

/-- The underlying state turns UNKNOWN (R43, R60). -/
def InputState.toUnknown (st : InputState) : InputState :=
  { st with debounced := none, candidate := none, count := 0, settled := none, run := none }

/-- The input resumes at read value `v` of sweep time `t` (R46); a flash-classified input begins an open-start run (R60). DESIGN CHOICE
(log entry 36): the flash start, which R60 does not name and no rule reads while the qualifying count is 0, is that sweep time too. -/
def InputState.resume (flash : Bool) (v : ContactValue) (t : Stamp) (st : InputState) : InputState :=
  { st with
    debounced := some v, stamp := t, candidate := none, count := 0, settled := some v.settled,
    run := if flash then some { start := t, length := 1, outlasted := false, openStart := true, qualifying := 0, flashStart := t } else none }

/-- The input settles to `v` (R41): the change stamp is the candidate's first-seen time. -/
def InputState.settle (v : ContactValue) (st : InputState) : InputState :=
  { st with debounced := some v, stamp := st.firstSeen, candidate := none, count := 0 }

/-- A read value equal to the debounced value discards any candidate (R40). -/
def InputState.discardCandidate (st : InputState) : InputState := { st with candidate := none, count := 0 }

/-- A read value `v` that differs from the debounced value is counted as the candidate (R41). -/
def InputState.countCandidate (v : ContactValue) (t : Stamp) (st : InputState) : InputState :=
  match st.candidate with
  | none => { st with candidate := some v, count := 1, firstSeen := t }
  | some _ => { st with count := st.count + 1 }

/-- A read value `v` meets the debounce with count `n` (R40, R41): the new state, and whether the read settled it. -/
def InputState.debounce (n : Nat) (v : ContactValue) (t : Stamp) (st : InputState) : InputState × Bool :=
  if st.debounced = some v then (st.discardCandidate, false)
  else
    let c := st.countCandidate v t
    if n ≤ c.count then (c.settle v, true) else (c, false)

/-! ### Flash classification (R55 to R59) -/

/-- Step 1 of R55: the current run counts the read, unless it has outlasted. -/
def InputState.countRun (st : InputState) : InputState :=
  { st with run := st.run.map fun r => if r.outlasted then r else { r with length := r.length + 1 } }

/-- The qualifying count and flash start after a steady input's run is judged (R56), `n` the debounce count of the transition
that ended it. -/
def RunData.judged (p readPeriod n : Nat) (r : RunData) : Nat × Stamp :=
  if r.openStart ∨ r.outlasted then (0, r.flashStart)
  else if runQualifies p readPeriod (r.length - n) then (r.qualifying + 1, if r.qualifying = 0 then r.start else r.flashStart)
  else (0, r.flashStart)

/-- Step 2 of R55: a settled transition ends the run, which is judged (R56), and begins a new one. A steady input whose
qualifying count reaches 2 becomes FLASHING, with the flash start as its stamp (R58). -/
def InputState.endRun (p readPeriod n : Nat) (st : InputState) : InputState × Option Stamp :=
  match st.run with
  | none => (st, none)
  | some r =>
    let hs := if st.settled = some .flashing then (r.qualifying, r.flashStart) else r.judged p readPeriod n
    let st1 : InputState :=
      { st with
        run := some { start := st.stamp, length := n, outlasted := false, openStart := false, qualifying := hs.1, flashStart := hs.2 } }
    if 2 ≤ hs.1 ∧ st.settled ≠ some .flashing then ({ st1 with settled := some .flashing }, some hs.2) else (st1, none)

/-- Step 3 of R55: the run outlasts when its certain length passes 5P/8; the settled value becomes the debounced value, stamped
with the run's start (R57, R59). -/
def InputState.testOutlast (p readPeriod : Nat) (st : InputState) : InputState × Option Stamp :=
  match st.run, st.debounced with
  | some r, some d =>
    if !r.outlasted && runOutlasts p readPeriod (r.length - st.count) then
      ({ st with settled := some d.settled, run := some { r with outlasted := true, qualifying := 0 } }, some r.start)
    else (st, none)
  | _, _ => (st, none)

/-! ### One read of one input -/

/-- What a read did to an input: its state after, and the stamp and cause of the change of its settled value, if it made one. -/
structure ReadOutcome where
  after : InputState
  stamp : Stamp
  cause : Cause

/-- A flash-classified input whose debounced value was held before the read (R55). -/
def InputState.flashRead (p readPeriod n : Nat) (v : ContactValue) (t : Stamp) (i : Nat) (st : InputState) : ReadOutcome :=
  let d := st.debounce n v t
  let c := d.1.countRun
  let x := if d.2 then c.endRun p readPeriod n else (c, none)
  let y := x.1.testOutlast p readPeriod
  { after := y.1, stamp := (y.2.or x.2).getD t, cause := .input i }

/-- An input that is not flash-classified: the settled value follows the debounced value (R41). -/
def InputState.plainRead (n : Nat) (v : ContactValue) (t : Stamp) (i : Nat) (st : InputState) : ReadOutcome :=
  let d := st.debounce n v t
  { after := if d.2 then { d.1 with settled := some v.settled } else d.1, stamp := d.1.stamp, cause := .input i }

/-- An accepted report of sweep time `t` is applied to mapped input `i` (R39): `v` is its read value and `p` the flasher period in
use. With SUPPLY_LOW it turns UNKNOWN (R45); an UNKNOWN input resumes (R46); any other is debounced (R40, R41). -/
def Bank.readInput (b : Bank) (p i : Nat) (v : ContactValue) (supplyLow : Bool) (t : Stamp) (st : InputState) : ReadOutcome :=
  let e := b.memory.mapEntry i
  if supplyLow then { after := st.toUnknown, stamp := t, cause := .card e.position }
  else
    match st.debounced with
    | none => { after := st.resume (b.memory.flashClassified i) v t, stamp := t, cause := .card e.position }
    | some _ =>
      if b.memory.flashClassified i then st.flashRead p (b.memory.readPeriod e.position) (b.debounceCount e v) v t i
      else st.plainRead (b.debounceCount e v) v t i

/-- The change notice of input `i`, where its presented value or quality has changed (R38); a forced input gives none (R50). -/
def ContactFilter.notice (f : ContactFilter) (i : Nat) (before after : InputState) (stamp : Stamp) (cause : Cause) : Option InputNotice :=
  if f.presentedOf i before = f.presentedOf i after then none
  else some { input := i, value := (f.presentedOf i after).1, quality := (f.presentedOf i after).2, stamp := stamp, cause := cause }

/-! ### The inputs of a card -/

/-- The change of each input that `f` makes, with the notices in mapped input order. -/
def ContactFilter.mapInputs (c : ContactFilter) (f : Nat → InputState → ReadOutcome) : ContactFilter × List InputNotice :=
  ({ c with inputs := c.inputs.map fun x => (x.1, (f x.1 x.2).after) },
    c.inputs.filterMap fun x => c.notice x.1 x.2 (f x.1 x.2).after (f x.1 x.2).stamp (f x.1 x.2).cause)

/-- An input left as it is. -/
def InputState.untouched (st : InputState) : ReadOutcome := { after := st, stamp := 0, cause := .force }

/-- An accepted report of position `p` is applied to every mapped input of the position, in mapped input order (R39); bit i of
`values` is the card's input i, 1 energised (R175). -/
def ContactFilter.applyReport (c : ContactFilter) (b : Bank) (period p values : Nat) (supplyLow : Bool) (t : Stamp) :
    ContactFilter × List InputNotice :=
  c.mapInputs fun i st =>
    let e := b.memory.mapEntry i
    if e.position = p then b.readInput period i (e.readValue (values.testBit e.input)) supplyLow t st else st.untouched

/-- Every mapped input of position `p` turns UNKNOWN, with cause CARD and the position (R43). -/
def ContactFilter.outage (c : ContactFilter) (m : Memory) (p : Nat) (t : Stamp) : ContactFilter × List InputNotice :=
  c.mapInputs fun i st =>
    if (m.mapEntry i).position = p then { after := st.toUnknown, stamp := t, cause := .card p } else st.untouched

/-- Every mapped input of a bank as R51 starts it, the forced list cleared (R47, R51, R52). -/
def ContactFilter.startOn (m : Memory) : ContactFilter :=
  { inputs := m.mappedInputs.map fun i => (i, InputState.start), forced := [] }

end Sys2Proof.Machine
end

