-- ==== Sys2Proof/Machine/Flasher.lean ====
section
/-! DEFINITION. The flasher monitor (sections 4.4 to 4.6): the since-rise count, the cycle step (R62), the STOPPED test (R65) and
abandonment (R66). -/

namespace Sys2Proof.Machine

/-- A measurement is in progress: in AUTO always, in ONE_SHOT while MEASURING is set (R62). -/
def FlasherMonitor.inProgress (f : FlasherMonitor) (mode : FlasherMode) : Bool :=
  match mode with
  | .manual => false
  | .auto => true
  | .oneShot => f.measuring

/-- A measurement in progress is abandoned (R66); with none in progress nothing changes. -/
def FlasherMonitor.abandon (f : FlasherMonitor) (mode : FlasherMode) : FlasherMonitor :=
  match mode with
  | .manual => f
  | .auto => { f with cycles := 0, readSum := 0, anchored := false }
  | .oneShot =>
    if f.measuring then { f with cycles := 0, readSum := 0, anchored := false, measuring := false, abandoned := true } else f

/-- Step 3 of R62: the eighth cycle completes the measurement, judged against the nominal period `nominal`. -/
def FlasherMonitor.complete (f : FlasherMonitor) (mode : FlasherMode) (nominal readPeriod : Nat) : FlasherMonitor :=
  let measured := (f.readSum * readPeriod + 4) / 8
  let inBand := decide (3 * nominal ≤ 4 * measured) && decide (4 * measured ≤ 5 * nominal)
  { f with
    lastMeasured := some measured,
    period := if inBand then some measured else f.period,
    fault := !inBand,
    cycles := 0, readSum := 0,
    measuring := match mode with
      | .oneShot => false
      | _ => f.measuring }

/-- Steps 1 and 2 of R62: a debounced OPEN to CLOSED transition with closing debounce count `n` completes a cycle of an anchored
measurement in progress, and anchors w. -/
def FlasherMonitor.countCycle (f : FlasherMonitor) (mode : FlasherMode) (n : Nat) : FlasherMonitor :=
  let f1 : FlasherMonitor :=
    match f.sinceRise with
    | none => f
    | some w =>
      if f.inProgress mode && f.anchored then { f with readSum := f.readSum + (w - n), cycles := f.cycles + 1 } else f
  { f1 with sinceRise := some n, anchored := true, stopped := false }

/-- The cycle step of R62, whole. -/
def FlasherMonitor.cycleStep (f : FlasherMonitor) (mode : FlasherMode) (nominal readPeriod n : Nat) : FlasherMonitor :=
  let f1 := f.countCycle mode n
  if 8 ≤ f1.cycles then f1.complete mode nominal readPeriod else f1

/-- The reference is judged stopped (R65): w is held, STOPPED is clear and w·T_r > 2·P. -/
def FlasherMonitor.stops (f : FlasherMonitor) (readPeriod : Nat) : Bool :=
  match f.sinceRise, f.period with
  | some w, some p => !f.stopped && decide (2 * p < w * readPeriod)
  | _, _ => false

/-- The STOPPED test (R65): STOPPED is set and any measurement is abandoned (R66). -/
def FlasherMonitor.testStopped (f : FlasherMonitor) (mode : FlasherMode) (readPeriod : Nat) : FlasherMonitor :=
  if f.stops readPeriod then ({ f with stopped := true }).abandon mode else f

/-- The reference's underlying state turns UNKNOWN (R61, R66). -/
def FlasherMonitor.loseReference (f : FlasherMonitor) (mode : FlasherMode) : FlasherMonitor :=
  ({ f with sinceRise := none, anchored := false }).abandon mode

/-- w rises by 1 at a read of the reference, unless STOPPED is set (R61). -/
def FlasherMonitor.countRead (f : FlasherMonitor) : FlasherMonitor :=
  if f.stopped then f else { f with sinceRise := f.sinceRise.map (· + 1) }

/-- The monitor takes a read of the reference's position (R61): `before` and `after` are the reference's underlying states around
the report, `n` its closing debounce count. -/
def FlasherMonitor.takeRead (f : FlasherMonitor) (mode : FlasherMode) (nominal readPeriod n : Nat) (before after : InputState) :
    FlasherMonitor :=
  match before.debounced, after.debounced with
  | some _, none => f.loseReference mode
  | none, none => f
  | none, some _ => ({ f with sinceRise := some 1, anchored := false }).testStopped mode readPeriod
  | some .opened, some .closed => (f.countRead.cycleStep mode nominal readPeriod n).testStopped mode readPeriod
  | some _, some _ => f.countRead.testStopped mode readPeriod

/-- The reference of a bank with its entry, if one is defined. -/
def Memory.referenceEntry? (m : Memory) : Option (Nat × MapEntry) := m.reference?.map fun i => (i, m.mapEntry i)

/-- The monitor takes an accepted report of position `p`, after the filter has applied it (R61). -/
def FlasherMonitor.takeReport (f : FlasherMonitor) (b : Bank) (p : Nat) (before after : ContactFilter) : FlasherMonitor :=
  match b.memory.referenceEntry? with
  | none => f
  | some (i, e) =>
    if e.position = p then
      match keyedGet i before.inputs, keyedGet i after.inputs with
      | some x, some y =>
        f.takeRead b.memory.flasherMode b.counts.nominal (b.memory.readPeriod p) (b.debounceCount e .closed) x y
      | _, _ => f
    else f

/-- The monitor takes an outage of position `p` (R61): where the reference has just turned UNKNOWN, it is lost. -/
def FlasherMonitor.takeOutage (f : FlasherMonitor) (b : Bank) (p : Nat) (before : ContactFilter) : FlasherMonitor :=
  match b.memory.referenceEntry? with
  | none => f
  | some (i, e) =>
    if e.position = p then
      match keyedGet i before.inputs with
      | some x => if x.debounced.isSome then f.loseReference b.memory.flasherMode else f
      | none => f
    else f

/-- The monitor afresh on a bank (R68): P is P_t. -/
def FlasherMonitor.startOn (b : Bank) : FlasherMonitor := { FlasherMonitor.reset with period := some b.counts.nominal }

end Sys2Proof.Machine
end

