-- ==== Sys2Proof/Machine/Pairs.lean ====
section
/-! DEFINITION. The pair unit (chapter 5): a pair's evaluation (R71), its count (R72), what it presents (R76), and the stamps and
causes of its changes (R77, R78). -/

namespace Sys2Proof.Machine

/-- A pair as a bank's taking up starts it (R81). -/
def PairRecord.start (t : Stamp) : PairRecord := { state := .unknown, transit := 0, stamp := t, quality := .unknown }

/-- The term value a pair presents (R76). -/
def PairState.termValue : PairState → Option Nat
  | .down => some 0
  | .up => some 1
  | .transit => some 2
  | .openFault => none
  | .closedFault => none
  | .unknown => none

/-- The quality a pair presents (R76), from its state and the qualities its inputs present. -/
def PairState.qualityWith (st : PairState) (qf qb : Quality) : Quality :=
  match st with
  | .openFault => .fault
  | .closedFault => .fault
  | .unknown => .unknown
  | _ => if qf = .forced ∨ qb = .forced then .forced else .good

/-- The new state of a pair (R71) from its state before, its transit count, and what F and B present. -/
def PairState.evaluate (before : PairState) (nt : Nat) (f b : Option Settled × Quality) : PairState :=
  if f.2 = .unknown ∨ b.2 = .unknown then .unknown
  else
    match f.1, b.1 with
    | some .closed, some .opened => .up
    | some .opened, some .closed => .down
    | some .closed, some .closed => .closedFault
    | some .opened, some .opened =>
      match before with
      | .transit => .transit
      | .openFault => .openFault
      | .closedFault => .closedFault
      | _ => if nt = 0 then .openFault else .transit
    | _, _ => .unknown

/-- Which of a batch's notices of a pair's inputs decide a change of the pair (R77). -/
def noticeFits (before after : PairState) (n : InputNotice) : Bool :=
  if after = .unknown then decide (n.quality = .unknown)
  else if before = after then true
  else if before = .unknown then decide (n.quality ≠ .unknown)
  else
    match after with
    | .transit => decide (n.value = some .opened)
    | .openFault => decide (n.value = some .opened)
    | .closedFault => decide (n.value = some .closed)
    | _ =>
      match before with
      | .openFault => true
      | .closedFault => true
      | _ => decide (n.value = some .closed)

/-- The notice with the latest stamp, the first on equal stamps (R77). -/
def latestNotice : List InputNotice → Option InputNotice
  | [] => none
  | n :: ns =>
    match latestNotice ns with
    | none => some n
    | some x => if n.stamp.toNat < x.stamp.toNat then some x else some n

/-- The notice that decides a change (R77): the latest that fits the change, or the latest of all where none fits. -/
def decidingNotice (before after : PairState) (ns : List InputNotice) : Option InputNotice :=
  (latestNotice (ns.filter (noticeFits before after))).or (latestNotice ns)

/-- The cause of a pair's change (R78): INPUT becomes PAIR with the pair number. -/
def Cause.asPair (c : Cause) (f : Nat) : Cause :=
  match c with
  | .input _ => .pair f
  | c => c

/-- The evaluation of pair `f` for a batch whose notices of its inputs are `ns` (step 1 of R70, R71, R77): the pair, and the
stamp and cause of its change of state or quality, if it made one. -/
def PairRecord.evaluate (r : PairRecord) (f nt : Nat) (pf pb : Option Settled × Quality) (ns : List InputNotice) :
    PairRecord × Option (Stamp × Cause) :=
  match decidingNotice r.state (r.state.evaluate nt pf pb) ns with
  | none => (r, none)
  | some n =>
    let st := r.state.evaluate nt pf pb
    let q := st.qualityWith pf.2 pb.2
    let transit := if st = .transit ∧ r.state = .transit then r.transit else 0
    if st = r.state ∧ q = r.quality then ({ r with transit := transit }, none)
    else ({ state := st, transit := transit, stamp := n.stamp, quality := q }, some (n.stamp, n.cause.asPair f))

/-- A pair in TRANSIT counts a read of sweep time `t` (R72): at its transit count it goes to OPEN_FAULT. -/
def PairRecord.countRead (r : PairRecord) (f nt : Nat) (t : Stamp) : PairRecord × Option (Stamp × Cause) :=
  if nt ≤ r.transit + 1 then ({ state := .openFault, transit := 0, stamp := t, quality := .fault }, some (t, .pair f))
  else ({ r with transit := r.transit + 1 }, none)

/-- The notice of a pair that has changed (R78). -/
def PairRecord.notice (r : PairRecord) (f : Nat) (change : Option (Stamp × Cause)) : Option PairNotice :=
  change.map fun sc => { pair := f, state := r.state, quality := r.quality, stamp := sc.1, cause := sc.2 }

/-- One pair takes a batch (R70): evaluated where an input of it has a notice, then counted where the batch carries a read of its
position and it was in TRANSIT before and still is. -/
def PairRecord.takeBatch (r : PairRecord) (b : Bank) (c : ContactFilter) (f : Nat) (notices : List InputNotice)
    (read : Option (Nat × Stamp)) : PairRecord × Option PairNotice :=
  let e := b.memory.mapEntry f
  let nt := b.transitCount e
  let x := r.evaluate f nt (c.presented f) (c.presented e.partner) (notices.filter fun n => decide (n.input = f) || decide (n.input = e.partner))
  match read with
  | none => (x.1, x.1.notice f x.2)
  | some (p, t) =>
    if e.position = p ∧ r.state = .transit ∧ x.1.state = .transit then
      let y := x.1.countRead f nt t
      (y.1, y.1.notice f (y.2.or x.2))
    else (x.1, x.1.notice f x.2)

/-- The pair unit takes a batch (R70): the pairs after it, and their change notices in pair number order. -/
def takePairs (b : Bank) (c : ContactFilter) (pairs : List (Nat × PairRecord)) (notices : List InputNotice)
    (read : Option (Nat × Stamp)) : List (Nat × PairRecord) × List PairNotice :=
  (pairs.map fun x => (x.1, (x.2.takeBatch b c x.1 notices read).1), pairs.filterMap fun x => (x.2.takeBatch b c x.1 notices read).2)

/-- Every pair of a bank UNKNOWN, with stamp `t` (R81). -/
def startPairs (m : Memory) (t : Stamp) : List (Nat × PairRecord) := m.pairNumbers.map fun f => (f, PairRecord.start t)

end Sys2Proof.Machine
end

