-- ==== Sys2Proof/Machine/Batch.lean ====
section
/-! DEFINITION. One batch of change notices on its way through the part (R39, R70, R89): the pair unit, the request engine, and
the round of the object evaluator. -/

namespace Sys2Proof.Machine

/-- A settled value as a term value (R85). -/
def Settled.termValue : Settled → Nat
  | .opened => 0
  | .closed => 1
  | .flashing => 2

/-- An input's notice as a term change (R85). -/
def InputNotice.termChange (n : InputNotice) : TermChange :=
  { source := ⟨.input, n.input⟩, value := n.value.map Settled.termValue, quality := n.quality, stamp := n.stamp, cause := n.cause }

/-- A pair's notice as a term change (R85). -/
def PairNotice.termChange (n : PairNotice) : TermChange :=
  { source := ⟨.pair, n.pair⟩, value := n.state.termValue, quality := n.quality, stamp := n.stamp, cause := n.cause }

/-- A term change reaches the request engine's proofs (R131) and joins the round (R89). -/
def Event.handOn (e : Event) (c : TermChange) : Event :=
  { e with st := e.st.takeProofNotice c.source c.value c.quality c.stamp, round := e.round ++ [c] }

/-- The changeover pair's notice reaches the judgement of authority (R80, R118). -/
def Event.takeChangeover (e : Event) (n : PairNotice) : Event :=
  (e.onState fun s => s.onRequest fun r => { r with changeover := some (n.state, n.quality) }).judgeAuthority n.stamp

/-- A pair change notice is handed on (R78, R80). DEDUCED (log entry 12): one notice of the changeover pair that both meets a running
request's proof and withdraws authority is tested against the proof first, so that request ends PROVED (R131) and not ABORTED_AUTHORITY;
the spec gives no order of the two. -/
def Event.handOnPair (m : Memory) (e : Event) (n : PairNotice) : Event :=
  if n.pair = m.changeover then (e.handOn n.termChange).takeChangeover n else e.handOn n.termChange

/-- A batch of input notices, with the read notice of a position where it carries one, goes through the pair unit and on to the
request engine and the round (R39, R70): the input notices first, in their order, then the pair notices in pair number order. The
requests that end by it have their records placed in slot order (R125). -/
def Event.takeBatch (e : Event) (b : Bank) (notices : List InputNotice) (read : Option (Nat × Stamp)) : Event :=
  let r := takePairs b e.st.filter e.st.pairs notices read
  let e1 := e.onState fun s => { s with pairs := r.1 }
  let e2 := notices.foldl (fun e n => e.handOn n.termChange) e1
  (r.2.foldl (Event.handOnPair b.memory) e2).onState fun s => s.onRequest fun q => q.inSlotOrder e.st.request

/-- The mapped inputs of position `p` turn UNKNOWN at one event, as one batch stamped `t` (R43). -/
def Event.positionOutage (e : Event) (b : Bank) (p : Nat) (t : Stamp) : Event :=
  let r := e.st.filter.outage b.memory p t
  let f := e.st.flasher.takeOutage b p e.st.filter
  (e.onState fun s => { s with filter := r.1, flasher := f }).takeBatch b r.2 none

/-- Every position for which a condition of R43 holds has its inputs UNKNOWN (R43), one batch for each position. -/
def Event.outages (e : Event) (t : Stamp) : Event :=
  match e.st.active? with
  | none => e
  | some b => (List.range 32).foldl (fun e p => if e.st.outage p then e.positionOutage b p t else e) e

/-- The conditions that a loop event can change are judged again, each with the event's stamp (R67, R86, R87, R89, R118). -/
def Event.judgeAll (e : Event) (t : Stamp) : Event := (((e.judgeLoop t).judgeCards t).judgeFlasher t).judgeAuthority t

/-- An accepted report of an input card is filtered whole, and its batch goes on (R39, R45, R61): position `p`, the values of the
card's inputs, SUPPLY_LOW and the sweep time. -/
def Event.inputReport (e : Event) (b : Bank) (p values : Nat) (supplyLow : Bool) (t : Stamp) : Event :=
  let before := e.st.filter
  let r := before.applyReport b (e.st.flasher.period.getD 0) p values supplyLow t
  let f := e.st.flasher.takeReport b p before r.1
  ((e.onState fun s => { s with filter := r.1, flasher := f }).takeBatch b r.2 (some (p, t))).judgeFlasher t

end Sys2Proof.Machine
end

