-- ==== Sys2Proof/Machine/Loop.lean ====
section
/-! DEFINITION. The loop controller's shared operations (chapter 1): sweep frames (R2, R3, R175), the settling of a sweep (R1,
R11, R17), the reading of a returned frame (R7 to R12), the survey (R14 to R17) and the entry to DOWN (R18). -/

namespace Sys2Proof.Machine

/-- The state with the loop controller changed. -/
def State.onLoop (s : State) (f : LoopController → LoopController) : State := { s with loop := f s.loop }

/-! ### Sweep frames as they leave (R2, R3, R175, R176) -/

/-- The byte of a sweep's kind (R175). -/
def SweepKind.code : SweepKind → Byte
  | .survey => 1
  | .read => 2

/-- The phase set of a position contains a phase (R3). -/
def Memory.inPhase (m : Memory) (p phase : Nat) : Bool := (m.phaseSet p).testBit phase

/-- The 32-bit set that names the positions for which `f` holds (R2). -/
def positionMask (f : Nat → Bool) : Word32 :=
  BitVec.ofNat 32 (((List.range 32).map fun p => if f p then 2 ^ p else 0).sum)

/-- The read mask of a sweep of a kind and phase (R3). -/
def LoopController.readMask (l : LoopController) (m : Memory) (kind : SweepKind) (phase : Nat) : Word32 :=
  match kind with
  | .survey => 0xFFFFFFFF#32
  | .read => positionMask fun p => decide ((l.position p).judged = .active) && m.inPhase p phase

/-- The positions that have an output section: those expected OUTPUT_16 (R2). -/
def Memory.outputPositions (m : Memory) : List Nat := (List.range 32).filter fun p => decide (m.expectedType p = 2)

/-- The bytes of a sweep's header before the hop counter (R175). -/
def Sweep.headerBytes (sw : Sweep) : List Byte :=
  sw.kind.code :: (toBytes 4 sw.number.toNat ++ BitVec.ofNat 8 sw.phase :: toBytes 4 sw.mask.toNat)

/-- The output sections that carry the outputs `on` (R2, R175). -/
def sectionBytes (positions on : List Nat) : List Byte :=
  positions.flatMap fun p => BitVec.ofNat 8 p :: toBytes 2 (outputBits on p).toNat

/-- A sweep frame as the 7120 sends it (R175): the hop counter is 0, and the check covers the header but for it, the section count
and the sections (R176). -/
def sweepFrame (sw : Sweep) (positions on : List Nat) : List Byte :=
  let count := BitVec.ofNat 8 positions.length
  let sections := sectionBytes positions on
  sw.headerBytes ++ [0, count] ++ toBytes 2 (crc16 (sw.headerBytes ++ [count] ++ sections)).toNat ++ sections

/-- A sweep has left (R129, R133): each occupied slot counts it and its steps follow, and each output of an expected output card
takes the state its section carried. -/
def State.sweepSent (s : State) (b : Bank) (on : List Nat) : State :=
  s.onRequest fun r =>
    let r1 := r.bringUpToDate b (fun sl => ({ sl with count := sl.count + 1 }).updateSteps b) s.now
    (b.memory.outputPositions.flatMap fun p => (List.range 16).map (outputKey p)).foldl (fun r k => r.carry k (on.contains k)) r1

/-- The sweep that the loop controller sends next (R1, R2, R3): SURVEY in SURVEY, READ otherwise. -/
def State.nextSweep (s : State) (m : Memory) : Sweep :=
  let kind : SweepKind := if s.loop.state = .survey then .survey else .read
  { kind := kind, number := if kind = .read then s.loop.sweepNumber + 1 else s.loop.sweepNumber, phase := s.loop.phase,
    mask := s.loop.readMask m kind s.loop.phase, time := s.now }

/-- The next sweep is sent (R1): it is in flight, its number and phase are counted, and the sweep timer runs for one period. -/
def State.sendSweep (s : State) : State :=
  match s.active? with
  | none => s
  | some b =>
    let sw := s.nextSweep b.memory
    let on := s.commandedOn
    (s.onLoop fun l =>
      { l with
        inFlight := some sw, sweepNumber := sw.number, phase := (l.phase + 1) % 4, sweepsSent := l.sweepsSent + 1,
        sweepTimer := some b.memory.sweepPeriod, loopOut := sweepFrame sw b.memory.outputPositions on }).sweepSent b on

/-! ### Missed reads and loop states -/

/-- A missed-read count after one more miss: it stops at 3 (R11). -/
def PositionRecord.miss (r : PositionRecord) : PositionRecord := { r with missed := min 3 (r.missed + 1) }

/-- The positions for which `which` holds count a missed read (R11, R17). -/
def LoopController.countMissed (l : LoopController) (which : Nat → Bool) : LoopController :=
  { l with positions := l.positions.mapIdx fun p r => if which p then r.miss else r }

/-- The positions that count a missed read at the end of a survey sweep of a phase (R17): the ACTIVE ones read in that phase. -/
def LoopController.surveyMisses (l : LoopController) (m : Memory) (phase p : Nat) : Bool :=
  decide ((l.position p).judged = .active) && m.inPhase p phase

/-- The loop enters SURVEY (R14): EXCESS is cleared, the held list discarded, and the loop up time is 0 (R22). -/
def LoopController.enterSurvey (l : LoopController) : LoopController :=
  { l with state := .survey, excess := false, heldList := none, upTime := 0, retryWait := none }

/-- The loop enters DOWN (R18). -/
def LoopController.enterDown (l : LoopController) : LoopController :=
  { l with
    state := .down, sweepTimer := none, inFlight := none, lostCount := 0, heldList := none, upTime := 0, retryWait := some 1000,
    positions := l.positions.map fun r => if r.judged = .active then { r with missed := 3 } else r }

/-- The sweep in flight is judged lost (R1, R11, R15, R17). -/
def LoopController.loseSweep (l : LoopController) (m : Memory) (sw : Sweep) : LoopController :=
  let l1 := { l with sweepsLost := l.sweepsLost + 1, lostCount := l.lostCount + 1, inFlight := none }
  match sw.kind with
  | .read => l1.countMissed fun p => sw.mask.getLsbD p
  | .survey => { l1.countMissed (l1.surveyMisses m sw.phase) with heldList := none }

/-- The sweep in flight is lost, and at the third in a row the loop enters DOWN (R1, R18); inputs, conditions and authority follow,
stamped with its sweep time (R44, R86, R87). -/
def Event.loseSweep (e : Event) (b : Bank) (sw : Sweep) : Event :=
  let e1 := e.onState fun s => s.onLoop fun l =>
    let l1 := l.loseSweep b.memory sw
    if 3 ≤ l1.lostCount then l1.enterDown else l1
  (e1.outages sw.time).judgeAll sw.time

/-- The entry to DOWN on its own (R18), stamped `t`. -/
def Event.goDown (e : Event) (t : Stamp) : Event :=
  ((e.onState fun s => s.onLoop LoopController.enterDown).outages t).judgeAll t

/-- A pending RESURVEY or READMIT_CARD is applied (R20, R21): an ISOLATED position that waits becomes MISSING with score 0, and the
loop enters SURVEY or begins its survey again, stamped with the time of the sweep now sent (R86). -/
def Event.applyResurvey (e : Event) : Event :=
  if e.st.loop.pendingResurvey ∨ e.st.loop.pendingReadmit ≠ [] then
    (e.onState fun s => s.onLoop fun l =>
      { l.enterSurvey with
        pendingResurvey := false, pendingReadmit := [],
        positions := l.positions.mapIdx fun p r =>
          if l.pendingReadmit.contains p ∧ r.judged = .isolated then { r with judged := .missing, score := 0 } else r }).judgeAll
      e.st.now
  else e

/-! ### Frames as they return (R7, R175, R176) -/

/-- A card report of a returned frame (R6, R175). -/
structure CardReport where
  position : Nat
  card : Card
  supplyLow : Bool
  values : List Byte
  good : Bool
deriving DecidableEq, Repr

/-- The report of 17 bytes (R175); its check is good when it equals the remainder over the bytes before it (R176). -/
def readReport (bs : List Byte) : CardReport :=
  { position := (byteAt bs 0).toNat, card := { cardType := byteAt bs 1, identity := BitVec.ofNat 32 (fieldAt bs 2 4) },
    supplyLow := (byteAt bs 6).getLsbD 0, values := (bs.drop 7).take 8,
    good := decide ((crc16 (bs.take 15)).toNat = fieldAt bs 15 2) }

/-- The reports in frame order; trailing bytes fewer than 17 are discarded (R8, R176). The fuel is the number of bytes. -/
def readReports : Nat → List Byte → List CardReport
  | 0, _ => []
  | fuel + 1, bs => if bs.length < 17 then [] else readReport (bs.take 17) :: readReports fuel (bs.drop 17)

/-- The length of a frame's header, check and output sections (R175). -/
def frameReportsAt (frame : List Byte) : Nat := 14 + 3 * (byteAt frame 11).toNat

/-- The remainder over the bytes that the sweep check covers equals its field (R176); a frame too short for the sections it counts
carries no good check. -/
def sweepCheckHolds (frame : List Byte) : Bool :=
  decide (frameReportsAt frame ≤ frame.length)
    && decide ((crc16 (frame.take 10 ++ (frame.drop 11).take 1 ++ (frame.drop 14).take (3 * (byteAt frame 11).toNat))).toNat
      = fieldAt frame 12 2)

/-- A returned frame's sweep check is good (R176): one whose section count is not that of the sweep in flight, `sections`, fails it. -/
def sweepCheckGood (sections : Nat) (frame : List Byte) : Bool :=
  decide ((byteAt frame 11).toNat = sections) && sweepCheckHolds frame

/-- The frame is the return of a sweep that was sent with `sections` output sections (R7). -/
def isReturnOf (sections : Nat) (frame : List Byte) (sw : Sweep) : Bool :=
  sweepCheckGood sections frame && decide (byteAt frame 0 = sw.kind.code) && decide (fieldAt frame 1 4 = sw.number.toNat)
    && decide ((byteAt frame 5).toNat = sw.phase)

/-- The reports of a returned frame (R8). -/
def frameReports (frame : List Byte) : List CardReport :=
  readReports frame.length (frame.drop (frameReportsAt frame))

/-- The hop counter of a returned frame (R4). -/
def frameHops (frame : List Byte) : Nat := (byteAt frame 10).toNat

/-- What every report does to the loop controller whatever the loop state (R8): the corrupt-reports statistic, or EXCESS. -/
def LoopController.sortReport (l : LoopController) (r : CardReport) : LoopController :=
  if r.good then (if 32 ≤ r.position then { l with excess := true } else l)
  else l.modifyPosition r.position fun x => { x with corrupt := x.corrupt + 1 }

/-! ### Reads in RUNNING (R9 to R12) -/

/-- The reading of a READ sweep's reports under way: the positions with an outcome (R8), those accepted, and whether an identity
mismatch has been found (R12). -/
structure FrameWalk where
  st : State
  outcomes : List Nat
  accepted : List Nat
  mismatch : Bool

/-- An accepted report's effect on its position's record (R9). -/
def PositionRecord.accept (r : PositionRecord) (supplyLow : Bool) : PositionRecord :=
  { r with missed := 0, score := r.score - 1, supplyLow := supplyLow }

/-- A report of position `p` is accepted and handed on whole, as a round of its own (R9, R89): an input card's to the contact
filter (R39), an output card's to the readback check (R134). -/
def State.acceptReport (s : State) (b : Bank) (sw : Sweep) (r : CardReport) : State :=
  let e := (Event.start s).onState fun s => s.onLoop fun l => l.modifyPosition r.position fun x => x.accept r.supplyLow
  let e1 :=
    if b.memory.expectedType r.position = 1 then e.inputReport b r.position (beNat r.values) r.supplyLow sw.time
    else if r.supplyLow then e
    else e.checkReadbacks b.memory r.position (fieldAt r.values 0 2) sw.time
  (e1.judgeCards sw.time).close

/-- A corrupt report of an asked position without an outcome (R10): the score rises by 8, and at 64 or more the position is
ISOLATED at once, as a round of its own (R89). -/
def State.corruptRead (s : State) (sw : Sweep) (p : Nat) : State :=
  let s1 := s.onLoop fun l => l.modifyPosition p fun x =>
    { x with score := x.score + 8, judged := if 64 ≤ x.score + 8 then .isolated else x.judged }
  if 64 ≤ (s1.loop.position p).score then (((Event.start s1).outages sw.time).judgeAll sw.time).close else s1

/-- One report of a READ sweep's frame (R8, R9, R10). -/
def FrameWalk.take (b : Bank) (sw : Sweep) (w : FrameWalk) (r : CardReport) : FrameWalk :=
  let s := w.st.onLoop fun l => l.sortReport r
  if 32 ≤ r.position ∨ sw.mask.getLsbD r.position = false ∨ w.outcomes.contains r.position then { w with st := s }
  else if !r.good then { w with st := s.corruptRead sw r.position, outcomes := r.position :: w.outcomes }
  else if (s.loop.position r.position).judged ≠ .active then { w with st := s }
  else if b.memory.matchesCard r.position r.card then
    { w with
      st := s.acceptReport b sw r, outcomes := r.position :: w.outcomes, accepted := r.position :: w.accepted }
  else { w with st := s, mismatch := true }

/-- The outcomes of a READ sweep are settled (R8): missed reads are counted (R11), and an identity mismatch sends the loop into
SURVEY (R12), stamped with the sweep's time. -/
def FrameWalk.settle (w : FrameWalk) (sw : Sweep) : State :=
  let e := (Event.start w.st).onState fun s => s.onLoop fun l =>
    let l1 := l.countMissed fun p => sw.mask.getLsbD p && !w.accepted.contains p
    if w.mismatch then l1.enterSurvey else l1
  ((e.outages sw.time).judgeAll sw.time).close

/-- The reports of a returned READ sweep are read one by one in frame order and then settled (R8). -/
def State.readFrame (s : State) (b : Bank) (sw : Sweep) (reports : List CardReport) : State :=
  (reports.foldl (FrameWalk.take b sw) { st := s, outcomes := [], accepted := [], mismatch := false }).settle sw

/-! ### Surveys (R15, R16, R17) -/

/-- A returned survey sweep is clean (R15): every report's check is good and those below 32 name 0 to m − 1 in order. -/
def cleanSurvey (hops : Nat) (reports : List CardReport) : Bool :=
  reports.all (fun r => r.good)
    && decide ((reports.filter fun r => decide (r.position < 32)).map (·.position) = List.range (min hops 32))

/-- The card list of a clean survey sweep (R15): the cards at positions 0, 1, … -/
def cardList (reports : List CardReport) : List Card := (reports.filter fun r => decide (r.position < 32)).map (·.card)

/-- A position is judged against the agreed card list (R16). -/
def PositionRecord.judge (m : Memory) (cards : List Card) (p : Nat) (r : PositionRecord) : PositionRecord :=
  let r1 := { r with surveyed := cards[p]? }
  if r.judged = .isolated then r1
  else if !m.expected p then { r1 with judged := .notExpected }
  else
    match cards[p]? with
    | none => { r1 with judged := .missing }
    | some c =>
      if m.matchesCard p c then
        if r.judged = .active then r1 else { r1 with judged := .active, missed := 3, supplyLow := false }
      else { r1 with judged := .wrongCard }

/-- A survey is complete (R16): every position is judged and the loop enters RUNNING. DEDUCED (log entry 38): the agreed list is held no
longer, as every entry to SURVEY begins with none (R14). -/
def LoopController.completeSurvey (l : LoopController) (m : Memory) (cards : List Card) : LoopController :=
  { l with
    positions := l.positions.mapIdx fun p r => r.judge m cards p,
    state := .running, sweepNumber := 0, upTime := 0, heldList := none }

/-- A returned survey sweep is judged (R15): a clean list equal to the held one completes the survey; another clean list is held;
an unclean sweep discards the held list. -/
def LoopController.judgeSurvey (l : LoopController) (m : Memory) (hops : Nat) (reports : List CardReport) : LoopController :=
  if cleanSurvey hops reports then
    if l.heldList = some (cardList reports) then l.completeSurvey m (cardList reports)
    else { l with heldList := some (cardList reports) }
  else { l with heldList := none }

/-- A returned survey sweep (R8, R15, R16, R17): its reports are sorted, the ACTIVE positions of its phase count a missed read, and
it is judged; all as one event stamped with its sweep time. -/
def State.surveyFrame (s : State) (b : Bank) (sw : Sweep) (hops : Nat) (reports : List CardReport) : State :=
  let e := (Event.start s).onState fun s => s.onLoop fun l =>
    let l1 := reports.foldl LoopController.sortReport l
    (l1.countMissed (l1.surveyMisses b.memory sw.phase)).judgeSurvey b.memory hops reports
  ((e.outages sw.time).judgeAll sw.time).close

/-- The sweep in flight has returned (R7). -/
def LoopController.takeReturn (l : LoopController) (sw : Sweep) : LoopController :=
  { l with
    lostCount := 0, inFlight := none,
    lastCompleted := if sw.kind = .read then sw.number else l.lastCompleted }

end Sys2Proof.Machine
end

