-- ==== Sys2Proof/Machine/Switch.lean ====
section
/-! DEFINITION. The effect of a table switch (R158), block by block in the order that rule gives. -/

namespace Sys2Proof.Machine

/-! ### 1. Table store -/

/-- The selection moves to the standby, and no switch is pending (R141, R158). -/
def TableStore.takeSwitch (t : TableStore) : TableStore := { t with selection := some t.standbyName, switchPending := false }

/-! ### 2. Loop controller (R19) -/

/-- A position at the switch effect: its corrupt score goes to 0; not expected, it is NOT_EXPECTED; ISOLATED, it becomes MISSING. -/
def PositionRecord.takeSwitch (m : Memory) (p : Nat) (r : PositionRecord) : PositionRecord :=
  if !m.expected p then { r with judged := .notExpected, surveyed := none, missed := 0, supplyLow := false, score := 0 }
  else if r.judged = .isolated then { r with judged := .missing, score := 0 }
  else { r with score := 0 }

/-- The new bank's sweep period and POSITIONS image equal the old bank's byte for byte (R158). -/
def samePlan (old : Option Memory) (m : Memory) : Bool :=
  match old with
  | none => false
  | some o =>
    decide (o.sweepPeriod = m.sweepPeriod)
      && decide (o.slice (TableKind.positions.entryAt 0) 320 = m.slice (TableKind.positions.entryAt 0) 320)

/-- The loop controller at the switch effect: from IDLE it enters SURVEY, in DOWN the wait runs on, and in SURVEY and RUNNING a
changed plan makes it survey (R19). -/
def LoopController.takeSwitch (l : LoopController) (old : Option Memory) (m : Memory) : LoopController :=
  let l1 := { l with positions := l.positions.mapIdx fun p r => r.takeSwitch m p }
  match l.state with
  | .idle => l1.enterSurvey
  | .down => l1
  | _ => if samePlan old m then l1 else l1.enterSurvey

/-! ### 6. Request engine (R137, R138) -/

/-- The last matching keepalive stays (R138): TI item and CONTROL address are the same in both banks. -/
def keepaliveStays (old : Option Memory) (m : Memory) : Bool :=
  match old with
  | none => false
  | some o => decide (o.issueValue? keywordTI = m.issueValue? keywordTI) && decide (o.controlAddress? = m.controlAddress?)

/-- What the last matching keepalive and the expired flag become at a switch to a bank of watchdog time `w`, with the part's own
count at `own` (R138). -/
def RequestEngine.keepaliveAtSwitch (r : RequestEngine) (stays : Bool) (w own : Nat) : RequestEngine :=
  if stays then { r with mismatch := false, expired := r.lastKeepalive.any fun a => decide (w ≤ own - a) }
  else { r with mismatch := false, lastKeepalive := none, expired := false }

/-- The request engine at the switch effect (R137, R138), with every slot ended at stamp `now`; authority is judged after it. -/
def RequestEngine.takeSwitch (r : RequestEngine) (old : Option Memory) (b : Bank) (own : Nat) (now : Stamp) : RequestEngine :=
  { (r.endSlots (fun _ => true) .abortedTableSwitch now none).keepaliveAtSwitch (keepaliveStays old b.memory) b.counts.watchdog own with
    blocked := [], carried := [], proofs := b.memory.proofSources, changeover := some (.unknown, .unknown) }

/-- Authority as the conditions of R118 stand, taken without a round of its own. -/
def State.takeReasons (s : State) : State :=
  s.onRequest fun r => { r with reasons := s.reasonSet, authority := s.reasonSet.isEmpty }

/-! ### 7. Report unit (R109, R117) -/

/-- The report unit at the switch effect: the slice pointer is 0; at a first switch the timer starts. -/
def ReportUnit.takeSwitch (r : ReportUnit) (first : Bool) (m : Memory) : ReportUnit :=
  { r with slicePointer := 0, timer := if first then some m.reportPeriod else r.timer }

/-! ### 8. Object evaluator (R97, R98) -/

/-- The conditions as their owners leave them at a switch effect or a restart with a bank active (R97, R98). -/
def State.settleConditions (s : State) : State :=
  s.withConditions
    { s.evaluator.conditions with
      loopRunning := s.loopRunning, authority := s.request.authority, flasherOk := s.flasherOk, outputsHealthy := true,
      cardsHealthy := s.cardsHealthy }

/-- The switch takes effect (R158): the blocks take their parts in that rule's order, all in one event. -/
def State.switchEffect (s : State) : State :=
  let old := s.active?.map Bank.memory
  let b := s.tables.standby
  let now := s.now
  let s1 := { s with
    tables := s.tables.takeSwitch,
    report := s.report.offerMarker (.tableSwitch now (b.crc?.getD 0)),
    loop := s.loop.takeSwitch old b.memory,
    filter := ContactFilter.startOn b.memory,
    flasher := FlasherMonitor.startOn b,
    pairs := startPairs b.memory now,
    request := s.request.takeSwitch old b s.clock.own now }
  let s2 := s1.takeReasons
  let s3 := { s2 with report := s2.report.takeSwitch old.isNone b.memory }
  s3.settleConditions.resetImage b now fun _ => .tableSwitch

end Sys2Proof.Machine
end

