-- ==== Sys2Proof/Machine/Restart.lean ====
section
/-! DEFINITION. Restart, the RESET pin and power-on (R172, R173): every block's restart values, as R23, R52, R68, R81, R98, R117,
R139, R160 and R174 state them. -/

namespace Sys2Proof.Machine

/-- A bank at a restart with keep-tables: one in CHECKING becomes LOADING (R142, R160). -/
def Bank.abandonCheck (b : Bank) : Bank :=
  match b.state with
  | .checking => { b with state := .loading }
  | _ => b

/-- The table store at a restart (R160). -/
def TableStore.restart (t : TableStore) (keep : Bool) : TableStore :=
  if keep then { bankA := t.bankA.abandonCheck, bankB := t.bankB.abandonCheck, selection := t.selection, check := none, switchPending := false }
  else TableStore.reset

/-- The loop controller at a restart (R23); `survey` gives the sweep period when the loop surveys after it. -/
def LoopController.restart (l : LoopController) (survey : Option Nat) : LoopController :=
  match survey with
  | none => { LoopController.reset with loopOut := l.loopOut }
  | some period => { LoopController.reset with loopOut := l.loopOut, state := .survey, restartDelay := some period }

/-- The report unit at a restart (R117): the RESTART marker is the queue's only record; the time base runs on. -/
def ReportUnit.restart (r : ReportUnit) (keep : Bool) (timer : Option Nat) : ReportUnit :=
  { ReportUnit.reset with
    timeBase := r.timeBase, timeValid := r.timeValid, queue := [.restart r.timeBase keep], timer := timer }

/-- The request engine at a restart (R139), with the proof sources of the bank that stays active, if one does (R123). -/
def RequestEngine.restart (r : RequestEngine) (bank : Option Bank) : RequestEngine :=
  { RequestEngine.reset with
    outen := r.outen,
    changeover := bank.map fun _ => (.unknown, .unknown),
    proofs := match bank with
      | none => []
      | some b => b.memory.proofSources }

/-- The conditions after a restart with no bank active (R98): OUTEN is the pin, TIME_VALID is kept. -/
def Conditions.afterRestart (outen timeValid : Bool) : Conditions := { Conditions.reset with outen := outen, timeValid := timeValid }

/-- The cause of a term of the reset round of a restart (R98): that of its source's kind. -/
def Source.restartCause (src : Source) : Cause :=
  match src.kind with
  | .input => .input src.index
  | .pair => .pair src.index
  | .condition => .condition src.index

/-- The desk port at a restart (R174): the receive queue is emptied and the statistics are 0; the send list is kept. -/
def DeskPort.restart (d : DeskPort) : DeskPort :=
  { d with receiveQueue := [], fcsErrors := 0, malformed := 0, overflows := 0, controlDropped := 0, notSent := 0 }

/-- A restart that leaves no bank active (R172): without keep-tables, or with it while no bank is active. -/
def State.restartIdle (s : State) (keep : Bool) : State :=
  { s with
    loop := s.loop.restart none, filter := ContactFilter.reset, flasher := FlasherMonitor.reset, pairs := [],
    evaluator := { conditions := Conditions.afterRestart s.request.outen s.report.timeValid, objects := [] },
    report := s.report.restart keep none, request := s.request.restart none, tables := s.tables.restart keep,
    desk := s.desk.restart }.takeReasons

/-- A restart with keep-tables while bank `b` is active (R172): every block starts on it, the loop surveys one sweep period later,
and the reset round follows the RESTART marker. DEDUCED (log entry 37): an object whose terms are all conditions makes its record in
that round also where its row entry equals its fallback. -/
def State.restartOn (s : State) (b : Bank) : State :=
  let s1 := { s with
    loop := s.loop.restart (some b.memory.sweepPeriod), filter := ContactFilter.startOn b.memory, flasher := FlasherMonitor.startOn b,
    pairs := startPairs b.memory s.now,
    evaluator := { conditions := Conditions.afterRestart s.request.outen s.report.timeValid, objects := [] },
    report := s.report.restart true (some b.memory.reportPeriod), request := s.request.restart (some b),
    tables := s.tables.restart true, desk := s.desk.restart }
  s1.takeReasons.settleConditions.resetImage b s.now Source.restartCause

/-- The part restarts with keep-tables as `keep` says (R172). -/
def State.restart (s : State) (keep : Bool) : State :=
  match keep, s.active? with
  | true, some b => s.restartOn b
  | _, _ => s.restartIdle keep

/-- What the RESET pin adds to a restart without keep-tables (R173): the time base is 0 and TIME_VALID false, and the RESTART marker
carries that time. -/
def State.resetPin (s : State) : State :=
  ({ s with report := { s.report with timeBase := 0, timeValid := false } }).restart false

end Sys2Proof.Machine
end

