-- ==== Sys2Proof/Machine/Frames.lean ====
section
/-! DEFINITION. Frames towards the desk: the sending of a frame (R164, R177), the reply (R178) and the indication frame (R110 to
R115, R180). -/

namespace Sys2Proof.Machine

/-- The state with the desk port changed. -/
def State.onDesk (s : State) (f : DeskPort → DeskPort) : State := { s with desk := f s.desk }

/-- A frame is handed to the desk port and joins the tail of the send list (R164). -/
def State.send (s : State) (f : TxFrame) : State := s.onDesk fun d => { d with sendList := d.sendList ++ [f] }

/-- The bytes of a desk message after the EtherType (R177). -/
def TxFrame.message (f : TxFrame) : List Byte :=
  f.kind :: (toBytes 2 f.tag.toNat ++ toBytes 2 f.content.length ++ f.content)

/-- The bytes that fill a frame of `n` bytes up to the least Ethernet length without its FCS, 60 (R178; PRESUMED, log entry 7). -/
def padding (n : Nat) : List Byte := (List.range (60 - n)).map fun k => Config.padByte (n + k)

/-- A frame as the MAC sends it: destination, own address, EtherType 0xB7E2, message, padding, FCS (R162, R177). -/
def TxFrame.wireBytes (f : TxFrame) (own : Mac) : List Byte :=
  let body := toBytes 6 f.destination.toNat ++ toBytes 6 own.toNat ++ [0xB7, 0xE2] ++ f.message
  let padded := body ++ padding body.length
  padded ++ toBytesLsbFirst 4 (crc32 padded).toNat

/-! ### Replies (R178) -/

/-- The reply codes (section 10.4). -/
inductive ReplyCode where
  | ok
  | refusedRights
  | badFormat
  | badIndex
  | busy
  | notChecked
  | crcMismatch
  | listFull
  | notForced
  | notBlocked
  | notFound
  | wrongMode
  | noActive
deriving DecidableEq, Repr

/-- The coding of the reply codes (R178). -/
def ReplyCode.code : ReplyCode → Byte
  | .ok => 0
  | .refusedRights => 1
  | .badFormat => 2
  | .badIndex => 3
  | .busy => 4
  | .notChecked => 5
  | .crcMismatch => 6
  | .listFull => 7
  | .notForced => 8
  | .notBlocked => 9
  | .notFound => 10
  | .wrongMode => 11
  | .noActive => 12

/-- The reply to a request of kind `kind` (R165, R178): to its sender, with its tag. -/
def replyFrame (destination : Mac) (tag : Word16) (kind : Byte) (code : ReplyCode) (data : List Byte) : TxFrame :=
  { destination := destination, kind := 0x80, tag := tag, content := kind :: code.code :: data }

/-! ### The indication frame (R180) -/

/-- The byte of a reason set (R180). -/
def Reasons.code (r : Reasons) : Byte :=
  BitVec.ofNat 8 (r.noBank.toNat + 2 * r.loopNotRunning.toNat + 4 * r.changeoverNotDesk.toNat + 8 * r.keepaliveMissing.toNat
    + 16 * r.issueMismatch.toNat + 32 * r.outenLow.toNat)

/-- The byte of a slot state (R180). -/
def SlotState.code : SlotState → Byte
  | .running => 0
  | .proving => 1

/-- The byte of a result (R180). -/
def RequestResult.code : RequestResult → Byte
  | .proved => 0
  | .done => 1
  | .notProved => 2
  | .cancelled => 3
  | .abortedAuthority => 4
  | .abortedOutputFault => 5
  | .abortedTableSwitch => 6
  | .notAuthorised => 7
  | .undefinedPoint => 8
  | .duplicateTag => 9
  | .outputBlocked => 10
  | .outputBusy => 11
  | .noSlot => 12
  | .noSuchRequest => 13

/-- The byte of a quality (R180). -/
def Quality.code (q : Quality) : Byte := BitVec.ofNat 8 q.rank

/-- The byte of a loop state (R180). -/
def LoopState.code : LoopState → Byte
  | .idle => 0
  | .survey => 1
  | .running => 2
  | .down => 3

/-- A cause's kind and value (R180). FORCE and TABLE_SWITCH carry no value; 0 stands in their field (log entry 10). -/
def Cause.bytes : Cause → List Byte
  | .input i => 0 :: toBytes 2 i
  | .pair f => 1 :: toBytes 2 f
  | .condition c => 2 :: toBytes 2 c
  | .card p => 3 :: toBytes 2 p
  | .force => [4, 0, 0]
  | .tableSwitch => [5, 0, 0]

/-- Six bytes of a stamp that may be absent. -/
def stampBytes : Option Stamp → List Byte
  | none => List.replicate 6 0xFF
  | some t => toBytes 6 t.toNat

/-- The fields of a queue record, its kind byte first (R180). -/
def Record.fields : Record → List Byte
  | .change j ind q t c => 0 :: (toBytes 2 j ++ [ind, q.code] ++ toBytes 6 t.toNat ++ c.bytes)
  | .resync t lost first last => 1 :: (toBytes 6 t.toNat ++ toBytes 4 lost.toNat ++ stampBytes first ++ stampBytes last)
  | .timeSet t old => 2 :: (toBytes 6 t.toNat ++ toBytes 6 old.toNat)
  | .tableSwitch t crc => 3 :: (toBytes 6 t.toNat ++ toBytes 4 crc.toNat)
  | .restart t keep => 4 :: (toBytes 6 t.toNat ++ [flagByte keep])

/-- A queue record of 23 bytes (R180): bytes after its fields are 0. -/
def Record.bytes (r : Record) : List Byte := r.fields ++ List.replicate (23 - r.fields.length) 0

/-- An outcome record of 11 bytes (R180). -/
def OutcomeRecord.bytes (o : OutcomeRecord) : List Byte :=
  toBytes 2 o.tag.toNat ++ [BitVec.ofNat 8 (o.point.getD 0), o.result.code] ++ toBytes 6 o.stamp.toNat
    ++ [(o.reasons.map Reasons.code).getD 0]

/-- An in-flight entry of 3 bytes (R112, R180). -/
def Slot.inFlightBytes (sl : Slot) : List Byte := toBytes 2 sl.tag.toNat ++ [sl.state.code]

/-- A slice entry of 2 bytes (R180). -/
def ImageEntry.bytes (e : ImageEntry) : List Byte := [e.indication, e.quality.code]

/-- The size of the image slice (R114). -/
def sliceSize (q : QueueState) (n : Nat) : Nat :=
  match q with
  | .normal => min 64 n
  | .overrun => min 256 n

/-- The image entries of `size` consecutive objects from `start` on, counting past object n − 1 back to 0 (R114). -/
def imageSlice (objects : List ObjectState) (n start size : Nat) : List ImageEntry :=
  (List.range size).filterMap fun k => (objects[(start + k) % n]?).map (·.entry)

/-- The header's fields before the slice (R111, R180), as they stand at the expiry. -/
def State.headerBytes (s : State) (b : Bank) : List Byte :=
  toBytes 4 s.report.frameSequence.toNat ++ toBytes 6 s.now.toNat
    ++ [BitVec.ofNat 8 (s.report.timeValid.toNat + 2 * s.request.authority.toNat + 4 * (decide (s.report.queueState = .overrun)).toNat)]
    ++ toBytes 4 s.loop.lastCompleted.toNat ++ [s.loop.state.code] ++ toBytes 4 (b.crc?.getD 0).toNat ++ [s.request.reasons.code]
    ++ toBytes 4 s.report.lostCount.toNat

/-- The change transfer (R113): up to 32 records leave the head of the queue. -/
def ReportUnit.transfer (r : ReportUnit) : ReportUnit := { r with queue := r.queue.drop 32 }

/-- The return from OVERRUN to NORMAL (steps 1 to 3 of R107), where its test holds. -/
def ReportUnit.returnToNormal (r : ReportUnit) (limit : Nat) : ReportUnit :=
  if r.queueState = .overrun ∧ r.queue.length ≤ limit / 4 then
    { ({ r with queueState := .normal }).offerMarker (.resync r.timeBase r.lostCount r.firstLost r.lastLost) with
      lostCount := 0, firstLost := none, lastLost := none }
  else r

/-- Steps 2 to 4 of R110: the outcomes and the records leave, and the return to NORMAL forms a round of its own (R107, R108). -/
def State.takeFrameParts (s : State) (b : Bank) : State :=
  let s1 := s.onRequest fun r => { r with outcomes := [] }
  let s2 := { s1 with report := s1.report.transfer.returnToNormal b.memory.queueLimit }
  if s2.report.queueState = s.report.queueState then s2 else ((Event.start s2).setCondition 3 true s.now).close

/-- The content of the indication frame (R180): `s` is the state at the expiry, `s1` the state at step 5 of R110. -/
def State.frameContent (s s1 : State) (b : Bank) : List Byte :=
  let n := b.memory.objectCount
  let size := sliceSize s.report.queueState n
  let flying := s.request.occupied
  let records := s.report.queue.take 32
  s.headerBytes b ++ toBytes 2 s.report.slicePointer ++ toBytes 2 size
    ++ [BitVec.ofNat 8 flying.length, BitVec.ofNat 8 s.request.outcomes.length, BitVec.ofNat 8 records.length]
    ++ flying.flatMap Slot.inFlightBytes ++ s.request.outcomes.flatMap OutcomeRecord.bytes ++ records.flatMap Record.bytes
    ++ (imageSlice s1.evaluator.objects n s.report.slicePointer size).flatMap ImageEntry.bytes

/-- The report period expires (R110): one indication frame is built and handed on in a single operation, and the timer restarts
(R109). -/
def State.emitFrame (s : State) (b : Bank) : State :=
  let s1 := s.takeFrameParts b
  let n := b.memory.objectCount
  let frame : TxFrame := { destination := b.memory.deskAddress, kind := 0x81, tag := 0, content := s.frameContent s1 b }
  { (s1.send frame) with
    report := { s1.report with
      slicePointer := (s.report.slicePointer + sliceSize s.report.queueState n) % n,
      frameSequence := s1.report.frameSequence + 1, framesSent := s1.report.framesSent + 1, timer := some b.memory.reportPeriod } }

end Sys2Proof.Machine
end

