-- ==== Sys2Proof/Machine/Check.lean ====
section
/-! DEFINITION. The table check (R150 to R154): its findings, requirement by requirement, and its completion. -/

namespace Sys2Proof.Machine

/-- The code of an error kind (R178): 1 onwards, in the order of section 9.5.1. -/
def ErrorKind.code : ErrorKind → Nat
  | .sweepPeriodRange => 1
  | .reportPeriodRange => 2
  | .queueLimitRange => 3
  | .objectCountRange => 4
  | .watchdogRange => 5
  | .phaseSet => 6
  | .outputCardPhases => 7
  | .mapPosition => 8
  | .mapInputRange => 9
  | .mapDuplicate => 10
  | .pairPartner => 11
  | .flashOnPair => 12
  | .flashTooFast => 13
  | .flashDebounce => 14
  | .flasherPeriodRange => 15
  | .flasherReference => 16
  | .changeover => 17
  | .termCount => 18
  | .termSource => 19
  | .rowRange => 20
  | .stepCount => 21
  | .stepOutput => 22
  | .stepSameOutput => 23
  | .stepHoldZero => 24
  | .proofSource => 25
  | .proofTime => 26
  | .stationList => 27
  | .issueFormat => 28

/-- One finding where a requirement fails. -/
def failing (bad : Bool) (error : ErrorKind) (kind : TableKind) (index : Nat) : List Finding :=
  if bad then [{ error := error, kind := kind, index := index }] else []

/-! ### Which requirements can be judged (R152) -/

/-- The sweep period is 2 to 50 ms (R30). -/
def Memory.sweepPeriodGood (m : Memory) : Bool := decide (2 ≤ m.sweepPeriod) && decide (m.sweepPeriod ≤ 50)

/-- The flasher period code is 100 to 209 (R30). -/
def Memory.flasherPeriodGood (m : Memory) : Bool := decide (100 ≤ m.flasherPeriodCode) && decide (m.flasherPeriodCode ≤ 209)

/-- The object count is 1 to 1024 (R153). -/
def Memory.objectCountGood (m : Memory) : Bool := decide (1 ≤ m.objectCount) && decide (m.objectCount ≤ 1024)

/-- The read interval of a position, where the check can use it: every position but those with a PHASE_SET finding (R152), which are the
expected ones of a type or a phase set outside its coding. DESIGN CHOICE (log entry 35): a position of expected type NONE has its phase
set held unjudged (R153); where that phase set is one of R3's table the requirements that need a read interval are judged with it, and
where it is none of them no read interval exists and they are not judged. -/
def Memory.judgedInterval (m : Memory) (p : Nat) : Option Nat :=
  if p < 32 ∧ m.expectedType p ≤ 2 then phaseInterval (m.phaseSet p) else none

/-- The read interval of the position of mapped input `i`, where the check can use it. -/
def Memory.inputInterval (m : Memory) (i : Nat) : Option Nat := m.judgedInterval (m.mapEntry i).position

/-- The mapped inputs below 2048 with an entry for which `f` holds. -/
def Memory.inputsWith (m : Memory) (f : Nat → MapEntry → Bool) : List Nat := m.mappedInputs.filter fun i => f i (m.mapEntry i)

/-- Index `i` names a mapped input of role `role`. -/
def Memory.hasRole (m : Memory) (i : Nat) (role : Role) : Bool := decide (i < 2048) && decide ((m.mapEntry i).role = role)

/-! ### GLOBALS and POSITIONS (R30, R80, R153) -/

/-- The flasher mode and reference meet their requirement (R153, R182). -/
def Memory.flasherReferenceGood (m : Memory) : Bool :=
  decide (m.flasherModeCode ≤ 2)
    && match m.reference? with
      | none => decide (m.flasherModeCode = 0)
      | some i => m.hasRole i .single && m.flashFlag (m.mapEntry i).cls

/-- The findings on GLOBALS entry 0. -/
def Memory.globalsFindings (m : Memory) : List Finding :=
  failing (!m.sweepPeriodGood) .sweepPeriodRange .globals 0
    ++ failing (decide (m.reportPeriod < 5) || decide (1000 < m.reportPeriod)) .reportPeriodRange .globals 0
    ++ failing (decide (m.queueLimit < 64) || decide (512 < m.queueLimit)) .queueLimitRange .globals 0
    ++ failing (!m.objectCountGood) .objectCountRange .globals 0
    ++ failing (decide (m.watchdogCode < 50)) .watchdogRange .globals 0
    ++ failing (!m.flasherPeriodGood) .flasherPeriodRange .globals 0
    ++ failing (!m.flasherReferenceGood) .flasherReference .globals 0
    ++ failing (!m.hasRole m.changeover .front) .changeover .globals 0

/-- The findings on POSITIONS entry `p` (R153, R182). -/
def Memory.positionFindings (m : Memory) (p : Nat) : List Finding :=
  failing (m.expected p && (m.judgedInterval p).isNone) .phaseSet .positions p
    ++ failing (decide (m.expectedType p = 2) && decide (m.phaseSet p ≠ 15)) .outputCardPhases .positions p

/-! ### CLASSES (R32, R33, R54) -/

/-- The effective debounce durations of class `c` at read interval `r` meet R33. -/
def Memory.debounceFits (m : Memory) (c r : Nat) : Bool :=
  let rc := m.readCounts c r
  let period := m.sweepPeriod * r
  let nominal := decodeTime m.flasherPeriodCode
  decide (32 * (rc.toClosed * period) < 9 * nominal) && decide (32 * (rc.toOpen * period) < 9 * nominal)

/-- The read intervals at which class `c` has inputs for which `f` holds, of 1, 2 and 4. -/
def Memory.classIntervals (m : Memory) (c : Nat) (f : MapEntry → Bool) : List Nat :=
  [1, 2, 4].filter fun r =>
    !(m.inputsWith fun i e => decide (e.cls = c) && f e && decide (m.inputInterval i = some r)).isEmpty

/-- The findings on CLASSES entry `c`. -/
def Memory.classFindings (m : Memory) (c : Nat) : List Finding :=
  if m.flashFlag c then
    failing (!(m.inputsWith fun _ e => decide (e.cls = c) && decide (e.role ≠ .single)).isEmpty) .flashOnPair .classes c
      ++ failing
          (m.sweepPeriodGood && m.flasherPeriodGood
            && !((m.classIntervals c fun e => decide (e.role = .single)).all (m.debounceFits c)))
          .flashDebounce .classes c
  else []

/-- R32 at position `p`: the first flash-classified input of a position too slow for the nominal flasher period. -/
def Memory.flashSpeedFindings (m : Memory) (p : Nat) : List Finding :=
  match m.inputsWith fun i e => decide (e.position = p) && m.flashClassified i, m.judgedInterval p with
  | i :: _, some r =>
    failing (decide (3 * decodeTime m.flasherPeriodCode < 64 * (m.sweepPeriod * r))) .flashTooFast .contactMap i
  | _, _ => []

/-! ### CONTACT_MAP (R35) -/

/-- A PAIR_FRONT entry is joined to its PAIR_BACK partner both ways (R35). -/
def Memory.frontJoined (m : Memory) (i : Nat) (e : MapEntry) : Bool :=
  m.hasRole e.partner .back && decide ((m.mapEntry e.partner).position = e.position) && decide ((m.mapEntry e.partner).partner = i)

/-- Some PAIR_FRONT entry names input `i` as its partner. -/
def Memory.namedByFront (m : Memory) (i : Nat) : Bool := m.pairNumbers.any fun f => decide ((m.mapEntry f).partner = i)

/-- The pair requirement at mapped input `i` fails (R35, section 9.5.1). -/
def Memory.partnerFails (m : Memory) (i : Nat) (e : MapEntry) : Bool :=
  match e.role with
  | .front => !m.frontJoined i e
  | .back => !m.namedByFront i
  | _ => false

/-- The findings on the CONTACT_MAP entry of mapped input `i`, but for FLASH_TOO_FAST. -/
def Memory.mapFindings (m : Memory) (i : Nat) : List Finding :=
  let e := m.mapEntry i
  failing (decide (32 ≤ e.position) || decide (m.expectedType e.position ≠ 1)) .mapPosition .contactMap i
    ++ failing (decide (64 ≤ e.input)) .mapInputRange .contactMap i
    ++ failing (!(m.inputsWith fun j e' => decide (j < i) && decide (e'.position = e.position) && decide (e'.input = e.input)).isEmpty)
        .mapDuplicate .contactMap i
    ++ failing (m.partnerFails i e) .pairPartner .contactMap i

/-! ### OBJECTS (R84) -/

/-- A term names a source of its kind (R84, R182). -/
def Memory.termGood (m : Memory) (t : TermEntry) : Bool :=
  match t.kind with
  | 0 => m.hasRole t.index .single
  | 1 => m.hasRole t.index .front
  | 2 => decide (t.index < 8)
  | _ => false

/-- The row of an object, 3^k entries for its term count k, whatever k is, leaves the indication table (R84, R182). -/
def ObjectEntry.rowFails (o : ObjectEntry) : Bool := decide (32767 < o.rowBase + 3 ^ o.termCount - 1)

/-- The findings on OBJECTS entry `j` of an object in use. -/
def Memory.objectFindings (m : Memory) (j : Nat) : List Finding :=
  let o := m.objectEntry j
  failing (decide (o.termCount < 1) || decide (4 < o.termCount)) .termCount .objects j
    ++ failing (!o.terms.all m.termGood) .termSource .objects j
    ++ failing o.rowFails .rowRange .objects j

/-! ### REQUEST_POINTS (R34, R122) -/

/-- A step names an output of an expected output card (R122, R182). -/
def Memory.stepGood (m : Memory) (st : StepEntry) : Bool :=
  decide (st.position < 32) && decide (m.expectedType st.position = 2) && decide (st.output < 16)

/-- The proof of point `q` names a source of its kind and a term value (R122, R182). -/
def Memory.proofGood (m : Memory) (q : Nat) : Bool :=
  decide (m.proofValue q < 3)
    && match m.proofKind q with
      | 1 => m.hasRole (m.proofIndex q) .single
      | 2 => m.hasRole (m.proofIndex q) .front
      | _ => false

/-- The greatest step end of point `q`, in sweeps (R34). DESIGN CHOICE (log entry 41): a step of hold code 0, to which R27 gives no hold
count, ends at its start delay. -/
def Memory.latestEnd (m : Memory) (q : Nat) : Nat :=
  ((m.pointCounts q).steps.map fun dh => dh.1 + dh.2).foldl max 0

/-- The proof time of point `q` fails (R34); its count is compared only with a good sweep period (R152). -/
def Memory.proofTimeFails (m : Memory) (q : Nat) : Bool :=
  decide (m.proofTimeCode q = 0)
    || (m.sweepPeriodGood && decide (plainCountOf (m.proofTimeCode q) m.sweepPeriod < m.latestEnd q))

/-- The findings on REQUEST_POINTS entry `q`; STEP_HOLD_ZERO once for each step of hold code 0 (R30). -/
def Memory.pointFindings (m : Memory) (q : Nat) : List Finding :=
  if m.defined q then
    let steps := m.pointSteps q
    failing (!steps.all m.stepGood) .stepOutput .requestPoints q
      ++ failing (!decide ((steps.map fun st => (st.position, st.output)).Nodup)) .stepSameOutput .requestPoints q
      ++ steps.flatMap (fun st => failing (decide (st.holdCode = 0)) .stepHoldZero .requestPoints q)
      ++ failing (decide (m.proofKind q ≠ 0) && !m.proofGood q) .proofSource .requestPoints q
      ++ failing (decide (m.proofKind q ≠ 0) && m.proofTimeFails q) .proofTime .requestPoints q
  else failing (decide (3 < m.stepCount q)) .stepCount .requestPoints q

/-! ### STATIONS and ISSUE (R145, R153) -/

/-- The findings on STATIONS entry `k` of its own: rights outside their coding, and an address that a lower entry in use has. -/
def Memory.stationFindings (m : Memory) (k : Nat) : List Finding :=
  failing (decide (3 < m.stationRights k)) .stationList .stations k
    ++ failing
        (decide (m.stationRights k ≠ 0)
          && (List.range k).any fun j => decide (m.stationRights j ≠ 0) && decide (m.stationAddress j = m.stationAddress k))
        .stationList .stations k

/-- Exactly one STATIONS entry has CONTROL (R153). -/
def Memory.oneControl (m : Memory) : Bool := decide (((List.range 4).filter fun k => decide (m.stationRights k = 3)).length = 1)

/-- The issue record meets R145. -/
def Memory.issueGood (m : Memory) : Bool :=
  m.issue.2 && decide ((m.issue.1.filter fun it => decide (it.keyword = keywordSI)).length = 1)
    && decide ((m.issue.1.filter fun it => decide (it.keyword = keywordTI)).length = 1)

/-! ### All findings (R152) -/

/-- Every error finding of a bank. -/
def Memory.findings (m : Memory) : List Finding :=
  m.globalsFindings
    ++ (List.range 32).flatMap m.positionFindings
    ++ (List.range 32).flatMap m.classFindings
    ++ m.mappedInputs.flatMap m.mapFindings
    ++ (if m.sweepPeriodGood && m.flasherPeriodGood then (List.range 32).flatMap m.flashSpeedFindings else [])
    ++ (if m.objectCountGood then (List.range m.objectCount).flatMap m.objectFindings else [])
    ++ (List.range 256).flatMap m.pointFindings
    ++ (List.range 4).flatMap m.stationFindings
    ++ failing (!m.oneControl) .stationList .stations 0
    ++ failing (!m.issueGood) .issueFormat .issue 0

/-- The place of a finding in the order that chooses the first error (R152): table kind, entry index, error kind. -/
def Finding.place (f : Finding) : Nat := (f.kind.code * 65536 + f.index) * 32 + f.error.code

/-- The finding that comes first (R152). -/
def firstFinding : List Finding → Option Finding
  | [] => none
  | f :: fs =>
    match firstFinding fs with
    | none => some f
    | some g => if g.place < f.place then some g else some f

/-! ### CLAMPED (R29) -/

/-- A CLAMPED finding for each of `codes` whose count at period `period` is clamped. -/
def clampedAt (kind : TableKind) (index period : Nat) (codes : List Nat) : List Warning :=
  (codes.filter fun c => clampedCode c period).map fun _ => { kind := kind, index := index }

/-- The CLAMPED findings on CLASSES entry `c`: its used debounce and transit counts, the read intervals 1, 2 and 4 in turn. -/
def Memory.classWarnings (m : Memory) (c : Nat) : List Warning :=
  ([1, 2, 4].flatMap fun r =>
    (if (m.classIntervals c fun _ => true).contains r then
      clampedAt .classes c (m.sweepPeriod * r) [m.entryField .classes c 0 1, m.entryField .classes c 1 1] else [])
    ++ if (m.classIntervals c fun e => decide (e.role = .front)).contains r then
      clampedAt .classes c (m.sweepPeriod * r) [m.entryField .classes c 2 1] else [])

/-- The CLAMPED findings on REQUEST_POINTS entry `q`. -/
def Memory.pointWarnings (m : Memory) (q : Nat) : List Warning :=
  if m.defined q then
    clampedAt .requestPoints q m.sweepPeriod
      ((m.pointSteps q).flatMap (fun st => [st.delayCode, st.holdCode]) ++ if m.proofKind q = 0 then [] else [m.proofTimeCode q])
  else []

/-- Every CLAMPED finding of a bank, in the order of R29; none without a good sweep period (R152). -/
def Memory.warnings (m : Memory) : List Warning :=
  if m.sweepPeriodGood then (List.range 32).flatMap m.classWarnings ++ (List.range 256).flatMap m.pointWarnings else []

/-! ### Completion (R154) -/

/-- The check result of a bank's images (R152, R154): counts stop at 65535. -/
def Memory.checkResult (m : Memory) : CheckResult :=
  let errors := m.findings
  let warnings := m.warnings
  { errorCount := min 65535 errors.length, firstError := firstFinding errors, warningCount := min 65535 warnings.length,
    firstWarning := warnings.head?, crc := crc32 m.serialise }

/-- The bank as the check leaves it (R154). -/
def Bank.checked (b : Bank) : Bank :=
  { b with
    state :=
      if b.memory.checkResult.errorCount = 0 then .checkedGood b.memory.checkResult b.memory.countSet
      else .checkedBad b.memory.checkResult }

/-- The code of a bank state (R178). -/
def BankState.code : BankState → Byte
  | .empty => 0
  | .loading => 1
  | .checking => 2
  | .checkedGood _ _ => 3
  | .checkedBad _ => 4

/-- The bytes of a first error that may be absent: kind, table kind, index (R178). -/
def findingBytes : Option Finding → List Byte
  | none => [0, 0, 0, 0]
  | some f => [BitVec.ofNat 8 f.error.code, BitVec.ofNat 8 f.kind.code] ++ toBytes 2 f.index

/-- The bytes of a first warning that may be absent: table kind, index (R177, R178). -/
def warningBytes : Option Warning → List Byte
  | none => [0, 0, 0]
  | some w => BitVec.ofNat 8 w.kind.code :: toBytes 2 w.index

/-- The bytes of a check result, as the CHECK_TABLES reply gives them (R178). -/
def checkResultBytes (state : Byte) (r : CheckResult) : List Byte :=
  state :: (toBytes 2 r.errorCount ++ findingBytes r.firstError ++ toBytes 2 r.warningCount ++ warningBytes r.firstWarning
    ++ toBytes 4 r.crc.toNat)

/-- The check completes (R154): the context is closed, the bank takes its result, and the reply to CHECK_TABLES is sent. -/
def State.completeCheck (s : State) (c : CheckContext) : State :=
  let b := (s.tables.bank c.bank).checked
  ({ s with tables := { s.tables.setBank c.bank b with check := none } }).send
    (replyFrame c.sender c.tag 0x14 .ok (checkResultBytes b.state.code b.memory.checkResult))

end Sys2Proof.Machine
end

