-- ==== Sys2Proof/Machine/Desk.lean ====
section
/-! DEFINITION. The desk port's shared operations: the taking of a message (R163), station rights (R166, R167), the order in which
a request is judged (R168), and the data of IDENTIFY, READ_STATUS and READ_STATISTICS (R169 to R171, R178, R179). -/

namespace Sys2Proof.Machine

/-! ### Rights (R166) -/

/-- The rights of a station, in the order of their codes (R178). -/
inductive Rights where
  | none
  | view
  | maintain
  | control
deriving DecidableEq, Repr

/-- The coding of rights (R178). -/
def Rights.code : Rights → Byte
  | .none => 0
  | .view => 1
  | .maintain => 2
  | .control => 3

/-- The rights of a code; a code outside the coding gives none (R182 keeps it from an active bank). -/
def Rights.ofCode (n : Nat) : Rights :=
  match n with
  | 1 => .view
  | 2 => .maintain
  | 3 => .control
  | _ => .none

/-- The rights that a bank's station list gives a source: those of the entry in use that has its address. -/
def Memory.rightsOf (m : Memory) (source : Mac) : Rights :=
  match (List.range 4).find? fun k => decide (m.stationAddress k = source) && decide (Rights.ofCode (m.stationRights k) ≠ .none) with
  | Option.none => .none
  | some k => Rights.ofCode (m.stationRights k)

/-- The rights of a source as the desk port finds them at the taking of a message (R166). -/
def State.rightsOf (s : State) (source : Mac) : Rights :=
  match s.active? with
  | Option.none => .maintain
  | some b => b.memory.rightsOf source

/-- Rights that allow a VIEW request (R166). -/
def Rights.allowView (r : Rights) : Bool := decide (r ≠ .none)

/-- Rights that allow a MAINTAIN request (R166). -/
def Rights.allowMaintain (r : Rights) : Bool := decide (r = .maintain)

/-- Rights that allow SET_TIME (R166). -/
def Rights.allowSetTime (r : Rights) : Bool := decide (r = .maintain) || decide (r = .control)

/-! ### Taking a message (R163, R165) -/

/-- The message at the head of the receive queue, with the state after it has left the queue, where its kind is one of `kinds`. -/
def State.takeMessage (s : State) (kinds : Byte → Bool) : Option (Taken × State) :=
  match s.desk.receiveQueue with
  | [] => none
  | x :: rest => if kinds x.kind then some (x.taken, s.onDesk fun d => { d with receiveQueue := rest }) else none

/-- A request is answered: one reply to its sender, with its tag (R165, R168). -/
def State.answer (s : State) (x : Taken) (kind : Byte) (code : ReplyCode) (data : List Byte) : State :=
  s.send (replyFrame x.source x.tag kind code data)

/-- A request is refused with `code`: the reply carries no data and nothing else changes. -/
def State.refuse (s : State) (x : Taken) (kind : Byte) (code : ReplyCode) : State := s.answer x kind code []

/-- A management request of kind `kind` is taken (R167, R168): rights first, then the form of the content, then the rule that owns
the request. With no such message at the head of the queue the event cannot occur, and nothing changes (log entry 2). -/
def State.management (s : State) (kind : Byte) (allowed : Rights → Bool) (form : List Byte → Bool)
    (rule : State → Taken → State) : State :=
  match s.takeMessage fun k => decide (k = kind) with
  | none => s
  | some (x, s1) =>
    if !allowed (s1.rightsOf x.source) then s1.refuse x kind .refusedRights
    else if !form x.content then s1.refuse x kind .badFormat
    else rule s1 x

/-- The second step of R168: BUSY while a table check is in progress. -/
def State.unlessChecking (s : State) (x : Taken) (kind : Byte) (rule : State → Taken → State) : State :=
  if s.checking then s.refuse x kind .busy else rule s x

/-- A control message beyond its sender's rights, or malformed, is dropped and counted (R167). -/
def DeskPort.dropControl (d : DeskPort) : DeskPort := { d with controlDropped := d.controlDropped + 1 }

/-- A control message of kind `kind` is taken (R167): from the CONTROL station and well formed it is handed to the request engine. -/
def State.control (s : State) (kind : Byte) (form : List Byte → Bool) (rule : State → Taken → State) : State :=
  match s.takeMessage fun k => decide (k = kind) with
  | none => s
  | some (x, s1) =>
    if s1.rightsOf x.source = .control ∧ form x.content = true then rule s1 x else s1.onDesk DeskPort.dropControl

/-- The content has exactly `n` bytes (step 1 of R168). -/
def exactly (n : Nat) (content : List Byte) : Bool := decide (content.length = n)

/-! ### Coded values (R178, R179) -/

/-- The code of the selection: 0 NONE, 1 A, 2 B (R178). -/
def selectionByte (sel : Option BankName) : Byte := (sel.map BankName.code).getD 0

/-- A field of `n` bytes that may be absent: 0xFF bytes where it is (R179). -/
def absentOr {α : Type} (n : Nat) (f : α → List Byte) : Option α → List Byte
  | none => List.replicate n 0xFF
  | some x => f x

/-- An item of the issue record in IDENTIFY's data: its length and its bytes, or 0xFF where it is absent (R178). -/
def issueBytes : Option (List Byte) → List Byte
  | none => [0xFF]
  | some v => BitVec.ofNat 8 v.length :: v

/-- The data of IDENTIFY (R169, R178). -/
def State.identifyData (s : State) (source : Mac) : List Byte :=
  let b := s.active?
  toBytes 2 7120 ++ [1] ++ toBytes 6 s.desk.ownAddress.toNat ++ [(s.rightsOf source).code, selectionByte s.tables.selection]
    ++ toBytes 4 ((b.bind Bank.crc?).getD 0).toNat ++ toBytes 6 s.now.toNat ++ [flagByte s.report.timeValid]
    ++ issueBytes (b.bind fun b => b.memory.issueValue? keywordSI) ++ issueBytes (b.bind fun b => b.memory.issueValue? keywordTI)

/-- A bank in READ_STATUS (R161, R179): its state, its CRC and its check result. -/
def Bank.statusBytes (b : Bank) : List Byte :=
  b.state.code :: (absentOr 4 (fun c => toBytes 4 c.toNat) b.crc? ++ absentOr 16 (checkResultBytes b.state.code) b.result?)

/-- The table store in READ_STATUS (R161). -/
def State.tablesStatus (s : State) : List Byte :=
  [selectionByte s.tables.selection, flagByte s.tables.switchPending, flagByte s.checking]
    ++ s.tables.bankA.statusBytes ++ s.tables.bankB.statusBytes

/-- The place of a judged state in its list (R179). -/
def Judged.code : Judged → Byte
  | .notExpected => 0
  | .active => 1
  | .wrongCard => 2
  | .missing => 3
  | .isolated => 4

/-- A surveyed card (R179). -/
def Card.bytes (c : Card) : List Byte := c.cardType :: toBytes 4 c.identity.toNat

/-- A position in READ_STATUS (R22). -/
def PositionRecord.statusBytes (r : PositionRecord) : List Byte :=
  r.judged.code :: (absentOr 5 Card.bytes r.surveyed ++ toBytes 4 r.missed ++ [flagByte r.supplyLow] ++ toBytes 4 r.score)

/-- The loop controller in READ_STATUS (R22). -/
def LoopController.statusBytes (l : LoopController) : List Byte :=
  l.state.code :: (toBytes 4 l.sweepNumber.toNat ++ toBytes 4 l.lastCompleted.toNat ++ [flagByte l.excess]
    ++ (List.range 32).flatMap fun p => (l.position p).statusBytes)

/-- A forced value (R178). -/
def ContactValue.code : ContactValue → Byte
  | .opened => 0
  | .closed => 1

/-- The forced list in READ_STATUS (R53). -/
def ContactFilter.statusBytes (c : ContactFilter) : List Byte :=
  BitVec.ofNat 8 c.forced.length :: c.forced.flatMap fun x => toBytes 2 x.1 ++ [x.2.code]

/-- The place of a flasher mode in its list (R179). -/
def FlasherMode.code : FlasherMode → Byte
  | .manual => 0
  | .auto => 1
  | .oneShot => 2

/-- The flasher monitor in READ_STATUS (R68). -/
def State.flasherStatus (s : State) : List Byte :=
  let f := s.flasher
  absentOr 1 (fun b : Bank => [b.memory.flasherMode.code]) s.active? ++ absentOr 4 (fun b : Bank => toBytes 4 b.counts.nominal) s.active?
    ++ absentOr 4 (toBytes 4) f.period ++ absentOr 4 (toBytes 4) f.lastMeasured ++ toBytes 4 f.cycles
    ++ [flagByte f.measuring, flagByte f.fault, flagByte f.stopped, flagByte f.abandoned]

/-- The place of a pair state in its list (R179). -/
def PairState.code : PairState → Byte
  | .up => 0
  | .down => 1
  | .transit => 2
  | .openFault => 3
  | .closedFault => 4
  | .unknown => 5

/-- The changeover pair in READ_STATUS (R82). -/
def State.changeoverStatus (s : State) : List Byte :=
  absentOr 2 (fun b : Bank => toBytes 2 b.memory.changeover) s.active?
    ++ absentOr 2 (fun r : PairRecord => [r.state.code, r.quality.code])
        (s.active?.bind fun b => keyedGet b.memory.changeover s.pairs)

/-- The object evaluator in READ_STATUS (R99, R170). -/
def State.evaluatorStatus (s : State) : List Byte :=
  toBytes 4 (((s.active?.map fun b => b.memory.objectCount).getD 0))
    ++ (List.range 8).map fun c => flagByte (s.evaluator.conditions.get c)

/-- The place of a queue state in its list (R179). -/
def QueueState.code : QueueState → Byte
  | .normal => 0
  | .overrun => 1

/-- The report unit in READ_STATUS (R116). -/
def State.reportStatus (s : State) : List Byte :=
  let r := s.report
  toBytes 6 r.timeBase.toNat ++ [flagByte r.timeValid, r.queueState.code] ++ toBytes 4 r.queue.length ++ toBytes 4 r.lostCount.toNat
    ++ stampBytes r.firstLost ++ stampBytes r.lastLost ++ absentOr 4 (fun b : Bank => toBytes 4 b.memory.queueLimit) s.active?
    ++ toBytes 4 r.frameSequence.toNat ++ toBytes 2 r.slicePointer

/-- The place of a step state in its list (R179). -/
def StepState.code : StepState → Byte
  | .waiting => 0
  | .on => 1
  | .done => 2

/-- An occupied slot in READ_STATUS (R140, R179). -/
def Slot.statusBytes (sl : Slot) : List Byte :=
  let steps := (sl.steps.take 3).map StepState.code
  toBytes 2 sl.tag.toNat ++ [BitVec.ofNat 8 sl.point, sl.state.code] ++ toBytes 6 sl.accepted.toNat ++ toBytes 4 sl.count
    ++ steps ++ List.replicate (3 - steps.length) 0xFF

/-- The time since the last matching keepalive; four bytes cannot hold more than 2^32 − 1 ms (log entry 8). -/
def keepaliveAge (age : Nat) : List Byte := toBytes 4 (if age < 2 ^ 32 then age else (Config.longAge age).toNat)

/-- The 32 words of a set of outputs (R179). -/
def outputWords (keys : List Nat) : List Byte := (List.range 32).flatMap fun p => toBytes 2 (outputBits keys p).toNat

/-- The request engine in READ_STATUS (R140). -/
def State.requestStatus (s : State) : List Byte :=
  let r := s.request
  [if r.authority then 0 else 1, r.reasons.code, flagByte r.outen]
    ++ absentOr 4 (fun a => keepaliveAge (s.clock.own - a)) r.lastKeepalive ++ [flagByte r.mismatch, BitVec.ofNat 8 r.occupied.length]
    ++ r.occupied.flatMap Slot.statusBytes ++ toBytes 4 r.outcomes.length ++ outputWords r.blocked ++ outputWords s.commandedOn

/-- The desk port in READ_STATUS (R170); the link status's list is up, down (R179). -/
def State.deskStatus (s : State) (source : Mac) : List Byte :=
  toBytes 6 s.desk.ownAddress.toNat ++ [if s.desk.linkUp then 0 else 1] ++ toBytes 4 s.desk.receiveQueue.length
    ++ [(s.rightsOf source).code]

/-- The data of READ_STATUS (R170). -/
def State.statusData (s : State) (source : Mac) : List Byte :=
  s.deskStatus source ++ s.tablesStatus ++ s.loop.statusBytes ++ s.filter.statusBytes ++ s.flasherStatus ++ s.changeoverStatus
    ++ s.evaluatorStatus ++ s.reportStatus ++ s.requestStatus

/-- The data of READ_STATISTICS (R171): the desk port's, the loop controller's (R22), the report unit's (R116) and the request
engine's (R140). -/
def State.statisticsData (s : State) : List Byte :=
  ([s.desk.fcsErrors, s.desk.malformed, s.desk.overflows, s.desk.controlDropped, s.desk.notSent, s.loop.sweepsSent, s.loop.sweepsLost]
    ++ (List.range 32).map (fun p => (s.loop.position p).corrupt)
    ++ [s.loop.upTime, s.report.framesSent, s.report.changesLost, s.report.markersLost, s.request.discarded]).flatMap
    fun w => toBytes 4 w.toNat

/-- Every statistic that CLEAR_STATISTICS sets to 0 (R171): the loop up time and the lost count are left as they are. -/
def State.clearStatistics (s : State) : State :=
  { s with
    loop := { s.loop with sweepsSent := 0, sweepsLost := 0, positions := s.loop.positions.map fun r => { r with corrupt := 0 } },
    report := { s.report with framesSent := 0, changesLost := 0, markersLost := 0 },
    request := { s.request with discarded := 0 },
    desk := { s.desk with fcsErrors := 0, malformed := 0, overflows := 0, controlDropped := 0, notSent := 0 } }

/-! ### The MAC (R162) -/

/-- The FCS of a received frame is good (R162). -/
def fcsGood (frame : List Byte) : Bool :=
  decide (18 ≤ frame.length)
    && decide (toBytesLsbFirst 4 (crc32 (frame.take (frame.length - 4))).toNat = frame.drop (frame.length - 4))

/-- A desk message is offered to the receive queue (R162). -/
def DeskPort.offer (d : DeskPort) (x : RxMessage) : DeskPort :=
  if x.body.length < 3 then { d with malformed := d.malformed + 1 }
  else if d.receiveQueue.length < 4 then { d with receiveQueue := d.receiveQueue ++ [x] }
  else { d with overflows := d.overflows + 1 }

/-- A frame arrives from the PHY (R162): FCS, filter, receive queue. No frame arrives while the link is down. -/
def DeskPort.receive (d : DeskPort) (frame : List Byte) : DeskPort :=
  if !d.linkUp then d
  else if !fcsGood frame then { d with fcsErrors := d.fcsErrors + 1 }
  else if fieldAt frame 0 6 ≠ d.ownAddress.toNat ∨ fieldAt frame 12 2 ≠ 0xB7E2 then d
  else d.offer { source := BitVec.ofNat 48 (fieldAt frame 6 6), body := (frame.take (frame.length - 4)).drop 14 }

/-- The frame at the head of the send list is sent, or discarded unsent while the link is down (R164). -/
def DeskPort.sendHead (d : DeskPort) : DeskPort :=
  match d.sendList with
  | [] => d
  | f :: rest =>
    if d.linkUp then { d with sendList := rest, wire := f.wireBytes d.ownAddress }
    else { d with sendList := rest, notSent := d.notSent + 1 }

end Sys2Proof.Machine
end

