-- ==== Sys2Proof/Machine/Management.lean ====
section
/-! DEFINITION. The commands of the desk port (chapter 10). -/

namespace Sys2Proof.Machine

/-- DESK_FRAME_RECEIVED (R162). -/
def execDeskFrameReceived (frame : List Byte) (s : State) : Host.Outcome State Fault Refusal :=
  .next (s.onDesk fun d => d.receive frame)

/-- FRAME_SEND (R164). -/
def execFrameSend (s : State) : Host.Outcome State Fault Refusal := .next (s.onDesk DeskPort.sendHead)

/-- UNKNOWN_KIND (R165): a message of a kind that the desk does not send is answered BAD_FORMAT, whatever its sender's rights. -/
def execUnknownKind (s : State) : Host.Outcome State Fault Refusal :=
  match s.takeMessage fun k => !knownKinds.contains k, s.desk.receiveQueue.head? with
  | some (x, s1), some m => .next (s1.refuse x m.kind .badFormat)
  | _, _ => .next s

/-- IDENTIFY (R169). -/
def execIdentify (s : State) : Host.Outcome State Fault Refusal :=
  .next (s.management 0x01 Rights.allowView (exactly 0) fun s x => s.answer x 0x01 .ok (s.identifyData x.source))

/-- READ_STATUS (R170). -/
def execReadStatus (s : State) : Host.Outcome State Fault Refusal :=
  .next (s.management 0x02 Rights.allowView (exactly 0) fun s x => s.answer x 0x02 .ok (s.statusData x.source))

/-- READ_STATISTICS (R171). -/
def execReadStatistics (s : State) : Host.Outcome State Fault Refusal :=
  .next (s.management 0x03 Rights.allowView (exactly 0) fun s x =>
    s.unlessChecking x 0x03 fun s x => s.answer x 0x03 .ok s.statisticsData)

/-- CLEAR_STATISTICS (R171). -/
def execClearStatistics (s : State) : Host.Outcome State Fault Refusal :=
  .next (s.management 0x04 Rights.allowMaintain (exactly 0) fun s x =>
    s.unlessChecking x 0x04 fun s x => s.clearStatistics.answer x 0x04 .ok [])

/-- RESTART's content: the keep-tables flag, 0 or 1 (R172, R178). -/
def restartForm (content : List Byte) : Bool := exactly 1 content && decide ((byteAt content 0).toNat < 2)

/-- RESTART (R172): the reply OK is handed to the desk port first, then the part restarts. -/
def execRestart (s : State) : Host.Outcome State Fault Refusal :=
  .next (s.management 0x05 Rights.allowMaintain restartForm fun s x =>
    (s.answer x 0x05 .ok []).restart (decide (byteAt x.content 0 = 1)))

end Sys2Proof.Machine
end

