-- ==== Sys2Proof/Machine/Pins.lean ====
section
/-! DEFINITION. The commands of the pins and the PHY: power-on, the RESET pin, OUTEN and the link status. -/

namespace Sys2Proof.Machine

/-- The own address of the ADDR straps: 02-4F-50-54-00-xx (R162). -/
def ownAddressOf (straps : Byte) : Mac := 0x024F50540000#48 ||| straps.setWidth 48

/-- The part after power-on (R173), with its pins and the PHY's report as they stand; the commands that wait are not the part's. -/
def State.powerOn (s : State) (straps : Byte) (outen link : Bool) : State :=
  { State.reset with
    desk := { DeskPort.reset with ownAddress := ownAddressOf straps, linkUp := link },
    request := { RequestEngine.reset with outen := outen, reasons := { Reasons.reset with outenLow := !outen } },
    evaluator := { ObjectEvaluator.reset with conditions := Conditions.afterRestart outen false },
    clock := { own := 0, drawn := s.clock.drawn },
    pending := s.pending }

/-- POWER_ON (R173). -/
def execPowerOn (straps : Byte) (outen link : Bool) (s : State) : Host.Outcome State Fault Refusal :=
  .next (s.powerOn straps outen link)

/-- RESET_PIN (R173). -/
def execResetPin (s : State) : Host.Outcome State Fault Refusal := .next s.resetPin

/-- OUTEN_CHANGE (R120): condition 4 and any change of authority form one round. -/
def execOutenChange (high : Bool) (s : State) : Host.Outcome State Fault Refusal :=
  .next ((((Event.start s).onState fun s => s.onRequest fun r => { r with outen := high }).setCondition 4 high s.now).judgeAuthority
    s.now).close

/-- LINK_STATUS_CHANGE (R162). -/
def execLinkStatusChange (up : Bool) (s : State) : Host.Outcome State Fault Refusal :=
  .next (s.onDesk fun d => { d with linkUp := up })

end Sys2Proof.Machine
end

