-- ==== Sys2Proof/Machine/Sweeps.lean ====
section
/-! DEFINITION. The commands of the loop controller (chapter 1). -/

namespace Sys2Proof.Machine

/-- What waits for the next sweep is applied (R1, R20, R21, R157), and the sweep is sent: `e` is the event as the sweep in flight was
settled. A pending switch takes effect after that round. DEDUCED (log entry 30): with a switch and a RESURVEY or READMIT_CARD both
waiting, which R1 does not order, the survey is applied on the new bank after the switch effect, and its changes form a further round
behind the reset round (R89). -/
def Event.applyAndSend (e : Event) : State :=
  if e.st.tables.switchPending then ((Event.start e.close.switchEffect).applyResurvey).close.sendSweep
  else e.applyResurvey.close.sendSweep

/-- The sweep in flight, if there is one, is settled as lost (R1). -/
def Event.settleSweep (e : Event) (b : Bank) : Event :=
  match e.st.loop.inFlight with
  | none => e
  | some sw => e.loseSweep b sw

/-- The sweep due event (R1): the sweep in flight is settled; after a third lost sweep the loop is DOWN and sends nothing, and a
pending switch takes effect there (R157). -/
def State.sweepDue (s : State) (b : Bank) : State :=
  let e := (Event.start s).settleSweep b
  if e.st.loop.state = .down then
    if e.st.tables.switchPending then e.close.switchEffect else e.close
  else e.applyAndSend

/-- SWEEP_DUE (R1). With the sweep timer stopped or no bank active the event cannot occur, and nothing changes. -/
def execSweepDue (s : State) : Host.Outcome State Fault Refusal :=
  match s.active?, s.loop.sweepTimer with
  | some b, some _ => .next (s.sweepDue b)
  | _, _ => .next s

/-- ENTER_DOWN (R18). The third lost sweep comes about in a sweep due event, and that event, whole, is its meaning; in a state whose
consecutive lost count already stands at 3 it is the entry alone. In any other state it cannot occur (log entry 3). -/
def execEnterDown (s : State) : Host.Outcome State Fault Refusal :=
  if 3 ≤ s.loop.lostCount then .next ((Event.start s).goDown s.now).close
  else
    match s.active?, s.loop.sweepTimer, s.loop.inFlight with
    | some b, some _, some _ => if s.loop.lostCount = 2 then .next (s.sweepDue b) else .next s
    | _, _, _ => .next s

/-- RETRY_WAIT_EXPIRY (R18): the loop enters SURVEY, a pending resurvey or readmission is applied (R20, R21), and a survey sweep is
sent at once. -/
def execRetryWaitExpiry (s : State) : Host.Outcome State Fault Refusal :=
  match s.loop.state, s.loop.retryWait with
  | .down, some _ => .next ((Event.start s).onState fun s => s.onLoop LoopController.enterSurvey).applyAndSend
  | _, _ => .next s

/-- RESTART_SURVEY_DELAY (R23): one sweep period after a restart with keep-tables, the first survey sweep is sent, with what has
come to wait for it (R1). While the delay still runs, as after a further restart, the event cannot occur, and nothing changes. -/
def execRestartSurveyDelay (s : State) : Host.Outcome State Fault Refusal :=
  match s.loop.restartDelay with
  | some 0 => .next ((Event.start s).onState fun s => s.onLoop fun l => { l with restartDelay := none }).applyAndSend
  | _ => .next s

/-- The return of the sweep in flight (R7) is read: in RUNNING as R8 states, in SURVEY as R15 states. -/
def State.takeFrame (s : State) (b : Bank) (sw : Sweep) (frame : List Byte) : State :=
  match s.loop.state with
  | .running => (s.onLoop fun l => l.takeReturn sw).readFrame b sw (frameReports frame)
  | .survey => (s.onLoop fun l => l.takeReturn sw).surveyFrame b sw (frameHops frame) (frameReports frame)
  | .idle => s
  | .down => s

/-- LOOP_IN_FRAME (R7): a frame that is not the return of the sweep in flight is discarded. That sweep was sent with one output
section for each expected output card of the bank that is still active (R2, R157). -/
def execLoopInFrame (frame : List Byte) (s : State) : Host.Outcome State Fault Refusal :=
  match s.active?, s.loop.inFlight with
  | some b, some sw => if isReturnOf b.memory.outputPositions.length frame sw then .next (s.takeFrame b sw frame) else .next s
  | _, _ => .next s

/-- READMIT_CARD (R21). -/
def execReadmitCard (s : State) : Host.Outcome State Fault Refusal :=
  .next (s.management 0x23 Rights.allowMaintain (exactly 1) fun s x =>
    s.unlessChecking x 0x23 fun s x =>
      let p := fieldAt x.content 0 1
      if s.active?.isNone then s.refuse x 0x23 .noActive
      else if 32 ≤ p then s.refuse x 0x23 .badIndex
      else if (s.loop.position p).judged ≠ .isolated then s.refuse x 0x23 .notFound
      else (s.onLoop fun l => { l with pendingReadmit := setInsert p l.pendingReadmit }).answer x 0x23 .ok [])

/-- RESURVEY (R20). -/
def execResurvey (s : State) : Host.Outcome State Fault Refusal :=
  .next (s.management 0x24 Rights.allowMaintain (exactly 0) fun s x =>
    s.unlessChecking x 0x24 fun s x =>
      if s.active?.isNone then s.refuse x 0x24 .noActive
      else (s.onLoop fun l => { l with pendingResurvey := true }).answer x 0x24 .ok [])

end Sys2Proof.Machine
end

