-- ==== Sys2Proof/Machine/Contacts.lean ====
section
/-! DEFINITION. The commands of the contact filter, the flasher monitor and the pair unit (chapters 3 to 5). The steps that a
report brings about within its own event (DEBOUNCE_SETTLE, MEASUREMENT_COMPLETE, FLASHER_STOPPED, TRANSIT_COUNT_OUT) are, as
commands of their own, the same operations on a state in which their condition stands (log entry 3). -/

namespace Sys2Proof.Machine

/-- CARD_OUTAGE_UNKNOWN (R43): where a condition of R43 holds for the position, its inputs turn UNKNOWN. -/
def execCardOutageUnknown (position : Nat) (stamp : Stamp) (s : State) : Host.Outcome State Fault Refusal :=
  match s.active? with
  | none => .next s
  | some b =>
    if s.outage position then
      .next ((((Event.start s).positionOutage b position stamp).judgeCards stamp).judgeFlasher stamp).close
    else .next s

/-- The settling of input `i` at a count that its candidate has reached (R41, R55): what it leaves of the input's state. -/
def Bank.settleInput (b : Bank) (period i : Nat) (v : ContactValue) (t : Stamp) (st : InputState) : ReadOutcome :=
  let e := b.memory.mapEntry i
  let c := st.settle v
  if b.memory.flashClassified i then
    let x := c.endRun period (b.memory.readPeriod e.position) (b.debounceCount e v)
    let y := x.1.testOutlast period (b.memory.readPeriod e.position)
    { after := y.1, stamp := (y.2.or x.2).getD t, cause := .input i }
  else { after := { c with settled := some v.settled }, stamp := c.stamp, cause := .input i }

/-- The monitor takes a settled transition of input `i` (R62), where `i` is the reference and it closes. -/
def FlasherMonitor.takeSettle (f : FlasherMonitor) (b : Bank) (i : Nat) (v : ContactValue) : FlasherMonitor :=
  match b.memory.referenceEntry? with
  | none => f
  | some (r, e) =>
    if r = i ∧ v = .closed then
      f.cycleStep b.memory.flasherMode b.counts.nominal (b.memory.readPeriod e.position) (b.debounceCount e .closed)
    else f

/-- The settling of one input as an event of its own. -/
def State.settleEvent (s : State) (b : Bank) (i : Nat) (v : ContactValue) (t : Stamp) : State :=
  let r := s.filter.mapInputs fun j st => if j = i then b.settleInput (s.flasher.period.getD 0) i v t st else st.untouched
  let f := s.flasher.takeSettle b i v
  ((((Event.start s).onState fun s => { s with filter := r.1, flasher := f }).takeBatch b r.2 none).judgeFlasher t).close

/-- DEBOUNCE_SETTLE (R41): where the input holds a candidate whose count has reached its debounce count, it settles. -/
def execDebounceSettle (input : Nat) (sweepTime : Stamp) (s : State) : Host.Outcome State Fault Refusal :=
  match s.active?, keyedGet input s.filter.inputs with
  | some b, some st =>
    match st.candidate with
    | some v => if b.debounceCount (b.memory.mapEntry input) v ≤ st.count then .next (s.settleEvent b input v sweepTime) else .next s
    | none => .next s
  | _, _ => .next s

/-- The flasher monitor changes, and FLASHER_OK is judged again with stamp `t` (R67). -/
def State.flasherEvent (s : State) (f : FlasherMonitor) (t : Stamp) : State :=
  (((Event.start s).onState fun s => { s with flasher := f }).judgeFlasher t).close

/-- MEASUREMENT_COMPLETE (R62): at eight cycles the measurement completes. -/
def execMeasurementComplete (sweepTime : Stamp) (s : State) : Host.Outcome State Fault Refusal :=
  match s.active?.bind fun b => b.memory.referenceEntry?.map fun x => (b, x.2) with
  | none => .next s
  | some (b, e) =>
    if 8 ≤ s.flasher.cycles then
      .next (s.flasherEvent (s.flasher.complete b.memory.flasherMode b.counts.nominal (b.memory.readPeriod e.position)) sweepTime)
    else .next s

/-- FLASHER_STOPPED (R65): where w·T_r passes 2·P the reference is judged stopped. -/
def execFlasherStopped (sweepTime : Stamp) (s : State) : Host.Outcome State Fault Refusal :=
  match s.active?.bind fun b => b.memory.referenceEntry?.map fun x => (b, x.2) with
  | none => .next s
  | some (b, e) =>
    .next (s.flasherEvent (s.flasher.testStopped b.memory.flasherMode (b.memory.readPeriod e.position)) sweepTime)

/-- Pair `f`, with its record, runs into OPEN_FAULT at stamp `t` as an event of its own (R72). -/
def State.countOutEvent (s : State) (b : Bank) (f : Nat) (t : Stamp) : State :=
  let r : PairRecord := { state := .openFault, transit := 0, stamp := t, quality := .fault }
  (Event.handOnPair b.memory ((Event.start s).onState fun s => { s with pairs := keyedPut f r s.pairs })
    { pair := f, state := .openFault, quality := .fault, stamp := t, cause := .pair f }).close

/-- TRANSIT_COUNT_OUT (R72): where a pair in TRANSIT has reached its transit count, it goes to OPEN_FAULT. -/
def execTransitCountOut (pair : Nat) (sweepTime : Stamp) (s : State) : Host.Outcome State Fault Refusal :=
  match s.active?, keyedGet pair s.pairs with
  | some b, some r =>
    if r.state = .transit ∧ b.transitCount (b.memory.mapEntry pair) ≤ r.transit then .next (s.countOutEvent b pair sweepTime)
    else .next s
  | _, _ => .next s

/-! ### The forced list (R47 to R50) -/

/-- The forced list with input `i` at value `v` (R48): replaced in its place, or added at the end. -/
def forceIn (i : Nat) (v : ContactValue) : List (Nat × ContactValue) → List (Nat × ContactValue)
  | [] => [(i, v)]
  | (k, w) :: rest => if k = i then (k, v) :: rest else (k, w) :: forceIn i v rest

/-- Input `i` is in the forced list. -/
def ContactFilter.isForced (c : ContactFilter) (i : Nat) : Bool := c.forced.any fun x => decide (x.1 = i)

/-- A change of what input `i` presents is handed on with cause FORCE as a batch of one (R38, R79), stamped with the time base as it
stands; `before` is what it presented. -/
def State.presentForced (s : State) (b : Bank) (i : Nat) (before : Option Settled × Quality) : State :=
  let after := s.filter.presented i
  if after = before then s
  else
    (((Event.start s).takeBatch b [{ input := i, value := after.1, quality := after.2, stamp := s.now, cause := .force }] none).judgeFlasher
      s.now).close

/-- The value of FORCE_INPUT (R178). -/
def forcedValue (b : Byte) : ContactValue := if b = 1 then .closed else .opened

/-- FORCE_INPUT's content: a mapped input and OPEN or CLOSED (R48, R178). -/
def forceForm (content : List Byte) : Bool := exactly 3 content && decide ((byteAt content 2).toNat < 2)

/-- A force that has passed its checks is carried out (R48). -/
def State.force (s : State) (b : Bank) (i : Nat) (v : ContactValue) : State :=
  ({ s with filter := { s.filter with forced := forceIn i v s.filter.forced } }).presentForced b i (s.filter.presented i)

/-- FORCE_INPUT (R48). -/
def execForceInput (s : State) : Host.Outcome State Fault Refusal :=
  .next (s.management 0x21 Rights.allowMaintain forceForm fun s x =>
    s.unlessChecking x 0x21 fun s x =>
      match s.active? with
      | none => s.refuse x 0x21 .noActive
      | some b =>
        let i := fieldAt x.content 0 2
        if 2048 ≤ i ∨ (b.memory.mapEntry i).role = .unused then s.refuse x 0x21 .badIndex
        else if !s.filter.isForced i && decide (32 ≤ s.filter.forced.length) then s.refuse x 0x21 .listFull
        else (s.force b i (forcedValue (byteAt x.content 2))).answer x 0x21 .ok [])

/-- A flash-classified input at its release (R60): steady at its debounced value, with h 0. -/
def InputState.release (st : InputState) : InputState :=
  { st with settled := st.debounced.map ContactValue.settled, run := st.run.map fun r => { r with qualifying := 0 } }

/-- The filter with input `i` released (R49, R60). -/
def ContactFilter.release (c : ContactFilter) (m : Memory) (i : Nat) : ContactFilter :=
  { inputs := c.inputs.map fun x => if x.1 = i ∧ m.flashClassified i then (x.1, x.2.release) else x,
    forced := c.forced.filter fun x => decide (x.1 ≠ i) }

/-- RELEASE_INPUT (R49). -/
def execReleaseInput (s : State) : Host.Outcome State Fault Refusal :=
  .next (s.management 0x22 Rights.allowMaintain (exactly 2) fun s x =>
    s.unlessChecking x 0x22 fun s x =>
      match s.active? with
      | none => s.refuse x 0x22 .noActive
      | some b =>
        let i := fieldAt x.content 0 2
        if 2048 ≤ i then s.refuse x 0x22 .badIndex
        else if !s.filter.isForced i then s.refuse x 0x22 .notForced
        else
          (({ s with filter := s.filter.release b.memory i }).presentForced b i (s.filter.presented i)).answer x 0x22 .ok [])

/-! ### MEASURE_FLASHER (R63) -/

/-- The reference's underlying state is UNKNOWN (R63). -/
def State.referenceUnknown (s : State) (b : Bank) : Bool :=
  match b.memory.reference?.bind fun i => keyedGet i s.filter.inputs with
  | some st => st.debounced.isNone
  | none => true

/-- A one-shot measurement begins, and is abandoned at once where the reference is UNKNOWN or STOPPED is set (R63, R66). -/
def FlasherMonitor.measure (f : FlasherMonitor) (mode : FlasherMode) (unknown : Bool) : FlasherMonitor :=
  let f1 : FlasherMonitor := { f with measuring := true, abandoned := false, cycles := 0, readSum := 0, anchored := false }
  if unknown || f.stopped then f1.abandon mode else f1

/-- MEASURE_FLASHER (R63). -/
def execMeasureFlasher (s : State) : Host.Outcome State Fault Refusal :=
  .next (s.management 0x25 Rights.allowMaintain (exactly 0) fun s x =>
    s.unlessChecking x 0x25 fun s x =>
      match s.active? with
      | none => s.refuse x 0x25 .noActive
      | some b =>
        if b.memory.flasherMode ≠ .oneShot then s.refuse x 0x25 .wrongMode
        else if s.flasher.measuring then s.refuse x 0x25 .busy
        else ({ s with flasher := s.flasher.measure .oneShot (s.referenceUnknown b) }).answer x 0x25 .ok [])

end Sys2Proof.Machine
end

