-- ==== Sys2Proof/Machine/Operator.lean ====
section
/-! DEFINITION. The commands of the request engine (chapter 8). -/

namespace Sys2Proof.Machine

/-- STEP_TIMING (R129): the steps of every slot are brought up to date with its sweep count, and R130 follows. A sweep sent does this
within its own event (log entry 3). -/
def execStepTiming (s : State) : Host.Outcome State Fault Refusal :=
  match s.active? with
  | none => .next s
  | some b => .next (s.onRequest fun r => r.bringUpToDate b (Slot.updateSteps b) s.now)

/-- PROOF_TIME_EXPIRY (R130): every slot whose steps are all DONE and whose count has reached its proof count ends NOT_PROVED. -/
def execProofTimeExpiry (s : State) : Host.Outcome State Fault Refusal :=
  match s.active? with
  | none => .next s
  | some b => .next (s.onRequest fun r => r.endSlots (fun sl => decide (sl.ending b = some .notProved)) .notProved s.now none)

/-- WATCHDOG_EXPIRY (R119): once the watchdog time of the active bank has passed since the last matching keepalive, the watchdog expired
flag becomes true. Where it has not, as after a matching keepalive taken first (R136), the watchdog does not expire and nothing
changes. -/
def execWatchdogExpiry (s : State) : Host.Outcome State Fault Refusal :=
  match s.active?, s.request.lastKeepalive with
  | some b, some a =>
    if b.counts.watchdog ≤ s.clock.own - a then
      .next (((Event.start s).onState fun s => s.onRequest fun r => { r with expired := true }).judgeAuthority s.now).close
    else .next s
  | _, _ => .next s

/-- KEEPALIVE's content: the issue length, 0 to 60, and that many bytes (R167, R178). -/
def keepaliveForm (content : List Byte) : Bool :=
  decide (1 ≤ content.length) && decide ((byteAt content 0).toNat ≤ 60) && decide (content.length = 1 + (byteAt content 0).toNat)

/-- The request engine takes a keepalive at its own count `own`: it matches or it does not (R119). -/
def RequestEngine.takeKeepalive (r : RequestEngine) (own : Nat) (matching : Bool) : RequestEngine :=
  if matching then { r with lastKeepalive := some own, expired := false, mismatch := false } else { r with mismatch := true }

/-- KEEPALIVE (R119): its issue string is compared with the active bank's TI item, and authority is judged again. -/
def execKeepalive (s : State) : Host.Outcome State Fault Refusal :=
  .next (s.control 0x40 keepaliveForm fun s x =>
    match s.active? with
    | none => s
    | some b =>
      (((Event.start s).onState fun s => s.onRequest fun r =>
        r.takeKeepalive s.clock.own (decide (b.memory.issueValue? keywordTI = some (x.content.drop 1)))).judgeAuthority s.now).close)

/-- The first check of R126 that an OPERATE fails, after the free place: its result, if one does. -/
def State.operateRefusal (s : State) (b : Bank) (tag : Word16) (q : Nat) : Option RequestResult :=
  let outputs := b.memory.pointOutputs q
  if !s.request.authority then some .notAuthorised
  else if !b.memory.defined q then some .undefinedPoint
  else if s.request.occupied.any fun sl => decide (sl.tag = tag) then some .duplicateTag
  else if outputs.any s.request.blocked.contains then some .outputBlocked
  else if s.request.occupied.any fun sl => (b.memory.pointOutputs sl.point).any outputs.contains then some .outputBusy
  else if s.request.slots.all Option.isSome then some .noSlot
  else none

/-- The lowest-numbered free slot is occupied (R127). -/
def occupy (sl : Slot) : List (Option Slot) → List (Option Slot)
  | [] => []
  | none :: rest => some sl :: rest
  | some x :: rest => some x :: occupy sl rest

/-- The slot of an accepted OPERATE (R127): steps of start delay 0 are ON, the others WAITING. -/
def Bank.newSlot (b : Bank) (tag : Word16) (q : Nat) (now : Stamp) : Slot :=
  { tag := tag, point := q, state := .running, accepted := now, count := 0,
    steps := (b.pointCounts q).steps.map fun dh => if dh.1 = 0 then .on else .waiting }

/-- An OPERATE that passes every check is accepted (R127): its slot is occupied, or, with the proof met already, it ends PROVED in
the same event and its slot stands free again. -/
def State.acceptOperate (s : State) (b : Bank) (tag : Word16) (q : Nat) : State :=
  let sl := b.newSlot tag q s.now
  if s.proofStands b.memory q then s.onRequest fun r => r.place (sl.outcome .proved s.now none)
  else s.onRequest fun r => { r with slots := occupy sl r.slots }

/-- An OPERATE or a CANCEL that finds no free place is discarded whole and counted (R124). -/
def RequestEngine.discard (r : RequestEngine) : RequestEngine := { r with discarded := r.discarded + 1 }

/-- The request engine takes an OPERATE (R124, R126, R127). -/
def State.takeOperate (s : State) (b : Bank) (tag : Word16) (q : Nat) : State :=
  if !s.request.freePlace then s.onRequest RequestEngine.discard
  else
    match s.operateRefusal b tag q with
    | none => s.acceptOperate b tag q
    | some result =>
      s.onRequest fun r => r.place
        { tag := tag, point := some q, result := result, stamp := s.now,
          reasons := if result = .notAuthorised then some r.reasons else none }

/-- OPERATE (R126). -/
def execOperate (s : State) : Host.Outcome State Fault Refusal :=
  .next (s.control 0x41 (exactly 1) fun s x =>
    match s.active? with
    | none => s
    | some b => s.takeOperate b x.tag (fieldAt x.content 0 1))

/-- The request engine takes a CANCEL that names `tag` (R132). -/
def State.takeCancel (s : State) (tag : Word16) : State :=
  if s.request.occupied.any fun sl => decide (sl.tag = tag) then
    s.onRequest fun r => r.endSlots (fun sl => decide (sl.tag = tag)) .cancelled s.now none
  else if s.request.freePlace then
    s.onRequest fun r => r.place { tag := tag, point := none, result := .noSuchRequest, stamp := s.now, reasons := none }
  else s.onRequest RequestEngine.discard

/-- CANCEL (R132): the tag of the request is its content. -/
def execCancel (s : State) : Host.Outcome State Fault Refusal :=
  .next (s.control 0x42 (exactly 2) fun s x => s.takeCancel (BitVec.ofNat 16 (fieldAt x.content 0 2)))

/-- An output leaves the blocked-output set, its grace count 0 (R135). -/
def RequestEngine.unblock (r : RequestEngine) (key : Nat) : RequestEngine :=
  { r with
    blocked := r.blocked.filter fun k => decide (k ≠ key),
    carried := if (r.carriedOf key).grace = 0 then r.carried else keyedPut key { (r.carriedOf key) with grace := 0 } r.carried }

/-- CLEAR_OUTPUT_BLOCK (R135). -/
def execClearOutputBlock (s : State) : Host.Outcome State Fault Refusal :=
  .next (s.management 0x26 Rights.allowMaintain (exactly 2) fun s x =>
    s.unlessChecking x 0x26 fun s x =>
      let p := fieldAt x.content 0 1
      let o := fieldAt x.content 1 1
      if s.active?.isNone then s.refuse x 0x26 .noActive
      else if 32 ≤ p ∨ 16 ≤ o then s.refuse x 0x26 .badIndex
      else if !s.request.blocked.contains (outputKey p o) then s.refuse x 0x26 .notBlocked
      else
        ((((Event.start s).onState fun s => s.onRequest fun r => r.unblock (outputKey p o)).judgeOutputs s.now).close).answer x 0x26 .ok [])

end Sys2Proof.Machine
end

