-- ==== Sys2Proof/Machine/Reporting.lean ====
section
/-! DEFINITION. The commands of the report unit (chapter 7). -/

namespace Sys2Proof.Machine

/-- REPORT_PERIOD_EXPIRY (R109, R110): the report period timer has run out. With the timer stopped or still running, as after a restart
that has started it again (R109), or with no bank active, the event cannot occur, and nothing changes. -/
def execReportPeriodExpiry (s : State) : Host.Outcome State Fault Refusal :=
  match s.active?, s.report.timer with
  | some b, some 0 => .next (s.emitFrame b)
  | _, _ => .next s

/-- The time base is loaded with `t` and the TIME_SET marker offered (steps 1 to 3 of R102). -/
def ReportUnit.setTime (r : ReportUnit) (t : Stamp) : ReportUnit :=
  ({ r with timeBase := t, timeValid := true }).offerMarker (.timeSet t r.timeBase)

/-- A SET_TIME is carried out (R102): a first setting hands on TIME_VALID as a round of its own, behind the marker. -/
def State.setTime (s : State) (t : Stamp) : State :=
  let s1 := { s with report := s.report.setTime t }
  if s.report.timeValid then s1 else ((Event.start s1).setCondition 6 true t).close

/-- SET_TIME (R102). -/
def execSetTime (s : State) : Host.Outcome State Fault Refusal :=
  .next (s.management 0x20 Rights.allowSetTime (exactly 6) fun s x =>
    s.unlessChecking x 0x20 fun s x => (s.setTime (BitVec.ofNat 48 (fieldAt x.content 0 6))).answer x 0x20 .ok [])

end Sys2Proof.Machine
end

