-- ==== Sys2Proof/Machine/Tables.lean ====
section
/-! DEFINITION. The commands of the table store (chapter 9). -/

namespace Sys2Proof.Machine

/-- The state with the table store changed. -/
def State.onTables (s : State) (f : TableStore → TableStore) : State := { s with tables := f s.tables }

/-- A check is in progress or a switch is pending (R146, R148 to R150, R156). -/
def State.tablesBusy (s : State) : Bool := s.checking || s.tables.switchPending

/-- CHECK_COMPLETION (R154). With no check in progress the event cannot occur, and nothing changes. -/
def execCheckCompletion (s : State) : Host.Outcome State Fault Refusal :=
  match s.tables.check with
  | some c => .next (s.completeCheck c)
  | none => .next s

/-- The content of WRITE_TABLE holds at least its fixed fields (R168, R177). -/
def writeForm (content : List Byte) : Bool := decide (5 ≤ content.length)

/-- The standby with `bytes` from entry `first` of kind `k` on; it becomes LOADING (R146). -/
def Bank.load (b : Bank) (k : TableKind) (first : Nat) (bytes : List Byte) : Bank :=
  { memory := b.memory.writeBytes (k.entryAt first) bytes, state := .loading }

/-- WRITE_TABLE (R146). -/
def execWriteTable (s : State) : Host.Outcome State Fault Refusal :=
  .next (s.management 0x10 Rights.allowMaintain writeForm fun s x =>
    let first := fieldAt x.content 1 2
    let count := fieldAt x.content 3 2
    let payload := x.content.drop 5
    match tableKindOf (fieldAt x.content 0 1) with
    | none => s.refuse x 0x10 .badFormat
    | some k =>
      if s.tablesBusy then s.refuse x 0x10 .busy
      else if k.entries < first + count then s.refuse x 0x10 .badIndex
      else if count = 0 ∨ 1024 < payload.length ∨ payload.length ≠ count * k.entrySize then s.refuse x 0x10 .badFormat
      else (s.onTables fun t => t.setStandby (t.standby.load k first payload)).answer x 0x10 .ok [])

/-- The bank of its code in READ_TABLE (R177). -/
def bankOf (code : Nat) : Option BankName :=
  match code with
  | 1 => some .a
  | 2 => some .b
  | _ => none

/-- READ_TABLE's content: a bank, A or B, and its other fixed fields (R177, R178). -/
def readForm (content : List Byte) : Bool := exactly 6 content && (bankOf (fieldAt content 0 1)).isSome

/-- READ_TABLE (R147): an OK reply carries the fields as requested, then the entries. -/
def execReadTable (s : State) : Host.Outcome State Fault Refusal :=
  .next (s.management 0x11 Rights.allowView readForm fun s x =>
    let first := fieldAt x.content 2 2
    let count := fieldAt x.content 4 2
    match bankOf (fieldAt x.content 0 1), tableKindOf (fieldAt x.content 1 1) with
    | some n, some k =>
      if count = 0 ∨ 1024 < count * k.entrySize then s.refuse x 0x11 .badFormat
      else if s.checking then s.refuse x 0x11 .busy
      else if k.entries < first + count then s.refuse x 0x11 .badIndex
      else s.answer x 0x11 .ok (x.content ++ (s.tables.bank n).memory.slice (k.entryAt first) (count * k.entrySize))
    | _, _ => s.refuse x 0x11 .badFormat)

/-- COPY_ACTIVE (R148). -/
def execCopyActive (s : State) : Host.Outcome State Fault Refusal :=
  .next (s.management 0x12 Rights.allowMaintain (exactly 0) fun s x =>
    match s.active? with
    | none => s.refuse x 0x12 .noActive
    | some b => if s.tablesBusy then s.refuse x 0x12 .busy else (s.onTables fun t => t.setStandby b).answer x 0x12 .ok [])

/-- CLEAR_STANDBY (R149). -/
def execClearStandby (s : State) : Host.Outcome State Fault Refusal :=
  .next (s.management 0x13 Rights.allowMaintain (exactly 0) fun s x =>
    if s.tablesBusy then s.refuse x 0x13 .busy else (s.onTables fun t => t.setStandby Bank.reset).answer x 0x13 .ok [])

/-- The check context that CHECK_TABLES opens (R150); `duration` is the time the check will take, no more than 250 ms. -/
def TableStore.openCheck (t : TableStore) (x : Taken) (duration : Nat) : TableStore :=
  { t.setStandby { t.standby with state := .checking } with
    check := some
      { bank := t.standbyName, sender := x.source, tag := x.tag, errors := 0, warnings := 0, firstError := none, firstWarning := none,
        remaining := min 250 duration } }

/-- CHECK_TABLES (R150): it is answered at the check's completion. How long the check takes is open (log entry 6). -/
def execCheckTables (s : State) : Host.Outcome State Fault Refusal :=
  .next (s.management 0x14 Rights.allowMaintain (exactly 0) fun s x =>
    if s.tablesBusy then s.refuse x 0x14 .busy
    else
      { s with
        tables := s.tables.openCheck x (Config.checkDuration s.clock.drawn),
        clock := { s.clock with drawn := s.clock.drawn + 1 } })

/-- A switch accepted (R156, R157): in IDLE and DOWN it takes effect at once, and from IDLE the first survey sweep is sent in the
same event (R13); otherwise it becomes pending. -/
def State.acceptSwitch (s : State) : State :=
  match s.loop.state with
  | .idle => s.switchEffect.sendSweep
  | .down => s.switchEffect
  | _ => s.onTables fun t => { t with switchPending := true }

/-- SWITCH_TABLES (R156). -/
def execSwitchTables (s : State) : Host.Outcome State Fault Refusal :=
  .next (s.management 0x15 Rights.allowMaintain (exactly 4) fun s x =>
    if s.tablesBusy then s.refuse x 0x15 .busy
    else
      match s.tables.standby.state with
      | .checkedGood r _ =>
        if r.crc.toNat ≠ fieldAt x.content 0 4 then s.refuse x 0x15 .crcMismatch else (s.answer x 0x15 .ok []).acceptSwitch
      | _ => s.refuse x 0x15 .notChecked)

end Sys2Proof.Machine
end

