-- ==== Sys2Proof/Machine/Clock.lean ====
section
/-! DEFINITION. The passing of one millisecond, which is what a step does on an empty queue (DESIGN CHOICE, log entry 4): the time
base and the part's own count go on (R101), every timer runs, and the events that fall due join the queue, in an order that the
spec leaves open (R7, R101, R119, R136; log entry 5). -/

namespace Sys2Proof.Machine

/-- A timer after one more millisecond. -/
def countDown (t : Option Nat) : Option Nat := t.map (· - 1)

/-- The loop controller's timers and the loop up time, which stops at its greatest value (R22). -/
def LoopController.advance (l : LoopController) : LoopController :=
  { l with
    sweepTimer := countDown l.sweepTimer, restartDelay := countDown l.restartDelay, retryWait := countDown l.retryWait,
    upTime := if l.state = .running then stopAtGreatest l.upTime else l.upTime }

/-- The time base rises by 1 and returns to 0 after its greatest value (R101); the report period timer runs. -/
def ReportUnit.advance (r : ReportUnit) : ReportUnit := { r with timeBase := r.timeBase + 1, timer := countDown r.timer }

/-- The check in progress goes on (R150). -/
def TableStore.advance (t : TableStore) : TableStore :=
  { t with check := t.check.map fun c => { c with remaining := c.remaining - 1 } }

/-- One millisecond passes. -/
def State.advance (s : State) : State :=
  { s with
    loop := s.loop.advance, report := s.report.advance, tables := s.tables.advance, clock := { s.clock with own := s.clock.own + 1 } }

/-- The watchdog time has passed since the last matching keepalive, and the watchdog has not expired (R119). -/
def State.watchdogDue (s : State) : Bool :=
  match s.active?, s.request.lastKeepalive with
  | some b, some a => !s.request.expired && decide (b.counts.watchdog ≤ s.clock.own - a)
  | _, _ => false

/-- The command that takes a message of kind `kind` from the head of the receive queue (R165, R177). -/
def takingOf (kind : Byte) : Instr :=
  match kind.toNat with
  | 0x01 => .identify
  | 0x02 => .readStatus
  | 0x03 => .readStatistics
  | 0x04 => .clearStatistics
  | 0x05 => .restart
  | 0x10 => .writeTable
  | 0x11 => .readTable
  | 0x12 => .copyActive
  | 0x13 => .clearStandby
  | 0x14 => .checkTables
  | 0x15 => .switchTables
  | 0x20 => .setTime
  | 0x21 => .forceInput
  | 0x22 => .releaseInput
  | 0x23 => .readmitCard
  | 0x24 => .resurvey
  | 0x25 => .measureFlasher
  | 0x26 => .clearOutputBlock
  | 0x40 => .keepalive
  | 0x41 => .operate
  | 0x42 => .cancel
  | _ => .unknownKind

/-- The kind of the message whose taking a command is, for the rows that take one of a kind of their own (R177). -/
def messageKind : Instr → Option Byte
  | .powerOn _ _ _ => none
  | .resetPin => none
  | .outenChange _ => none
  | .linkStatusChange _ => none
  | .sweepDue => none
  | .enterDown => none
  | .retryWaitExpiry => none
  | .restartSurveyDelay => none
  | .loopInFrame _ => none
  | .cardOutageUnknown _ _ => none
  | .debounceSettle _ _ => none
  | .measurementComplete _ => none
  | .flasherStopped _ => none
  | .transitCountOut _ _ => none
  | .stepTiming => none
  | .proofTimeExpiry => none
  | .watchdogExpiry => none
  | .reportPeriodExpiry => none
  | .checkCompletion => none
  | .deskFrameReceived _ => none
  | .frameSend => none
  | .unknownKind => none
  | .identify => some 0x01
  | .readStatus => some 0x02
  | .readStatistics => some 0x03
  | .clearStatistics => some 0x04
  | .restart => some 0x05
  | .writeTable => some 0x10
  | .readTable => some 0x11
  | .copyActive => some 0x12
  | .clearStandby => some 0x13
  | .checkTables => some 0x14
  | .switchTables => some 0x15
  | .setTime => some 0x20
  | .forceInput => some 0x21
  | .releaseInput => some 0x22
  | .readmitCard => some 0x23
  | .resurvey => some 0x24
  | .measureFlasher => some 0x25
  | .clearOutputBlock => some 0x26
  | .keepalive => some 0x40
  | .operate => some 0x41
  | .cancel => some 0x42

/-- The events that fall due in the millisecond that has just passed. -/
def State.due (s : State) : List Instr :=
  (if s.loop.sweepTimer = some 0 then [.sweepDue] else [])
    ++ (if s.loop.retryWait = some 0 then [.retryWaitExpiry] else [])
    ++ (if s.loop.restartDelay = some 0 then [.restartSurveyDelay] else [])
    ++ (if s.report.timer = some 0 then [.reportPeriodExpiry] else [])
    ++ (if s.watchdogDue then [.watchdogExpiry] else [])
    ++ (if s.tables.check.map (·.remaining) = some 0 then [.checkCompletion] else [])
    ++ (s.desk.receiveQueue.head?.map fun x => takingOf x.kind).toList
    ++ (if s.desk.sendList.isEmpty then [] else [.frameSend])

/-- The events in the order that the number `n` names, out of every order there is; `fuel` is at least their number. -/
def arrange : Nat → Nat → List Instr → List Instr
  | _, _, [] => []
  | _, _, [x] => [x]
  | 0, _, xs => xs
  | fuel + 1, n, x :: y :: rest =>
    let xs := x :: y :: rest
    let k := n % xs.length
    xs.getD k x :: arrange fuel (n / xs.length) (xs.eraseIdx k)

/-- What a step does on an empty queue: one millisecond passes and the events that fall due wait, one after another. -/
def State.tick (s : State) : State :=
  let s1 := s.advance
  { s1 with pending := s1.pending ++ arrange 8 (Config.eventOrder s1.clock.own) s1.due }

end Sys2Proof.Machine
end

