-- ==== Sys2Proof/Machine/Dispatch.lean ====
section
/-! DEFINITION. The meaning of every command: one arm for each row of spec/opcode_table.json. -/

namespace Sys2Proof.Machine

def exec (i : Instr) (s : State) : Host.Outcome State Fault Refusal :=
  match i with
  | .powerOn straps outen link => Sys2Proof.Machine.execPowerOn straps outen link s
  | .resetPin => Sys2Proof.Machine.execResetPin s
  | .outenChange high => Sys2Proof.Machine.execOutenChange high s
  | .linkStatusChange up => Sys2Proof.Machine.execLinkStatusChange up s
  | .sweepDue => Sys2Proof.Machine.execSweepDue s
  | .enterDown => Sys2Proof.Machine.execEnterDown s
  | .retryWaitExpiry => Sys2Proof.Machine.execRetryWaitExpiry s
  | .restartSurveyDelay => Sys2Proof.Machine.execRestartSurveyDelay s
  | .loopInFrame frame => Sys2Proof.Machine.execLoopInFrame frame s
  | .cardOutageUnknown position stamp => Sys2Proof.Machine.execCardOutageUnknown position stamp s
  | .debounceSettle input sweepTime => Sys2Proof.Machine.execDebounceSettle input sweepTime s
  | .measurementComplete sweepTime => Sys2Proof.Machine.execMeasurementComplete sweepTime s
  | .flasherStopped sweepTime => Sys2Proof.Machine.execFlasherStopped sweepTime s
  | .transitCountOut pair sweepTime => Sys2Proof.Machine.execTransitCountOut pair sweepTime s
  | .stepTiming => Sys2Proof.Machine.execStepTiming s
  | .proofTimeExpiry => Sys2Proof.Machine.execProofTimeExpiry s
  | .watchdogExpiry => Sys2Proof.Machine.execWatchdogExpiry s
  | .reportPeriodExpiry => Sys2Proof.Machine.execReportPeriodExpiry s
  | .checkCompletion => Sys2Proof.Machine.execCheckCompletion s
  | .deskFrameReceived frame => Sys2Proof.Machine.execDeskFrameReceived frame s
  | .frameSend => Sys2Proof.Machine.execFrameSend s
  | .unknownKind => Sys2Proof.Machine.execUnknownKind s
  | .identify => Sys2Proof.Machine.execIdentify s
  | .readStatus => Sys2Proof.Machine.execReadStatus s
  | .readStatistics => Sys2Proof.Machine.execReadStatistics s
  | .clearStatistics => Sys2Proof.Machine.execClearStatistics s
  | .restart => Sys2Proof.Machine.execRestart s
  | .writeTable => Sys2Proof.Machine.execWriteTable s
  | .readTable => Sys2Proof.Machine.execReadTable s
  | .copyActive => Sys2Proof.Machine.execCopyActive s
  | .clearStandby => Sys2Proof.Machine.execClearStandby s
  | .checkTables => Sys2Proof.Machine.execCheckTables s
  | .switchTables => Sys2Proof.Machine.execSwitchTables s
  | .setTime => Sys2Proof.Machine.execSetTime s
  | .forceInput => Sys2Proof.Machine.execForceInput s
  | .releaseInput => Sys2Proof.Machine.execReleaseInput s
  | .readmitCard => Sys2Proof.Machine.execReadmitCard s
  | .resurvey => Sys2Proof.Machine.execResurvey s
  | .measureFlasher => Sys2Proof.Machine.execMeasureFlasher s
  | .clearOutputBlock => Sys2Proof.Machine.execClearOutputBlock s
  | .keepalive => Sys2Proof.Machine.execKeepalive s
  | .operate => Sys2Proof.Machine.execOperate s
  | .cancel => Sys2Proof.Machine.execCancel s

end Sys2Proof.Machine
end

