-- ==== Sys2Proof/Safety.lean ====
section
/-! DEFINITION. What the spec promises of the whole part, as properties of a state that every step keeps; and the words in which
statements speak of a desk message and its reply. -/

namespace Sys2Proof.Machine

/-! ### Desk messages -/

/-- Message `x`, of kind `kind`, stands at the head of the receive queue, with `rest` behind it. -/
def State.offers (s : State) (x : RxMessage) (rest : List RxMessage) (kind : Byte) : Prop :=
  s.desk.receiveQueue = x :: rest ∧ x.kind = kind

/-- The state once the message before `rest` has left the receive queue. -/
def State.afterTaking (s : State) (rest : List RxMessage) : State := s.onDesk fun d => { d with receiveQueue := rest }

/-- The state in which one reply to message `x` has been handed to the desk port (R165, R168): to its sender, with its tag. -/
def State.repliedTo (s : State) (x : RxMessage) (kind : Byte) (code : ReplyCode) (data : List Byte) : State :=
  s.send (replyFrame x.source x.taken.tag kind code data)

/-- The management requests: the command, the message kind, the rights that allow it (R166), and the contents that are well formed, with
every coded value within its coding (R168, R177, R178). -/
def managementRequests : List (Instr × Byte × (Rights → Bool) × (List Byte → Bool)) :=
  [(.identify, 0x01, Rights.allowView, fun c => decide (c.length = 0)),
    (.readStatus, 0x02, Rights.allowView, fun c => decide (c.length = 0)),
    (.readStatistics, 0x03, Rights.allowView, fun c => decide (c.length = 0)),
    (.clearStatistics, 0x04, Rights.allowMaintain, fun c => decide (c.length = 0)),
    (.restart, 0x05, Rights.allowMaintain, fun c => decide (c.length = 1 ∧ (byteAt c 0).toNat ≤ 1)),
    (.writeTable, 0x10, Rights.allowMaintain, fun c => decide (5 ≤ c.length)),
    (.readTable, 0x11, Rights.allowView, fun c => decide (c.length = 6 ∧ ((byteAt c 0).toNat = 1 ∨ (byteAt c 0).toNat = 2))),
    (.copyActive, 0x12, Rights.allowMaintain, fun c => decide (c.length = 0)),
    (.clearStandby, 0x13, Rights.allowMaintain, fun c => decide (c.length = 0)),
    (.checkTables, 0x14, Rights.allowMaintain, fun c => decide (c.length = 0)),
    (.switchTables, 0x15, Rights.allowMaintain, fun c => decide (c.length = 4)),
    (.setTime, 0x20, Rights.allowSetTime, fun c => decide (c.length = 6)),
    (.forceInput, 0x21, Rights.allowMaintain, fun c => decide (c.length = 3 ∧ (byteAt c 2).toNat ≤ 1)),
    (.releaseInput, 0x22, Rights.allowMaintain, fun c => decide (c.length = 2)),
    (.readmitCard, 0x23, Rights.allowMaintain, fun c => decide (c.length = 1)),
    (.resurvey, 0x24, Rights.allowMaintain, fun c => decide (c.length = 0)),
    (.measureFlasher, 0x25, Rights.allowMaintain, fun c => decide (c.length = 0)),
    (.clearOutputBlock, 0x26, Rights.allowMaintain, fun c => decide (c.length = 2))]

/-- The requests of the second step of R168: their owners answer BUSY while a table check is in progress. -/
def busyDuringCheck : List Instr :=
  [.readStatistics, .clearStatistics, .setTime, .forceInput, .releaseInput, .readmitCard, .resurvey, .measureFlasher, .clearOutputBlock]

/-! ### Queues and lists -/

/-- The receive queue holds at most 4 messages (R162). -/
def State.receiveQueueGood (s : State) : Prop := s.desk.receiveQueue.length ≤ 4

/-- The report queue never holds more than 512 records; the lost count and the two stamps are 0 and absent whenever the queue is
NORMAL (R104). -/
def State.reportQueueGood (s : State) : Prop :=
  s.report.queue.length ≤ 512
    ∧ (s.report.queueState = .normal → s.report.lostCount = 0 ∧ s.report.firstLost = none ∧ s.report.lastLost = none)

/-- The forced list holds at most 32 entries and no input twice, and it is empty whenever no bank is active (R47). -/
def State.forcedListGood (s : State) : Prop :=
  s.filter.forced.length ≤ 32 ∧ (s.filter.forced.map Prod.fst).Nodup ∧ (s.tables.selection = none → s.filter.forced = [])

/-! ### Loop controller -/

/-- There are 32 position records, no missed-read count passes 3 (R11), and the phase counter is 0 to 3 (R1). A corrupt score is 0 to 71
(section 1.4), and 64 or more at ISOLATED positions alone (R10); so, in RUNNING, no position that the sweep in flight asks is ISOLATED
(R3). -/
def State.positionsGood (s : State) : Prop :=
  s.loop.positions.length = 32 ∧ (∀ r ∈ s.loop.positions, r.missed ≤ 3) ∧ s.loop.phase < 4
    ∧ (∀ r ∈ s.loop.positions, r.score ≤ 71 ∧ (r.judged ≠ .isolated → r.score ≤ 63))
    ∧ ∀ sw, s.loop.inFlight = some sw → s.loop.state = .running →
        ∀ p, p < 32 → sw.mask.getLsbD p = true → (s.loop.position p).judged ≠ .isolated

/-! ### Table store -/

/-- The bank is CHECKED_GOOD (R141). -/
def Bank.passed (b : Bank) : Prop := ∃ r counts, b.state = .checkedGood r counts

/-- Both banks hold their images in canonical form; the active bank stays in CHECKED_GOOD (R141); the bank under check is the standby,
in CHECKING (R150); a pending switch protects a CHECKED_GOOD standby, and no check runs beside it (R156, R157). -/
def State.banksGood (s : State) : Prop :=
  s.tables.bankA.memory.wf = true ∧ s.tables.bankB.memory.wf = true
    ∧ (∀ n, s.tables.selection = some n → (s.tables.bank n).passed)
    ∧ (∀ c, s.tables.check = some c → c.bank = s.tables.standbyName ∧ (s.tables.bank c.bank).state = .checking)
    ∧ (s.tables.switchPending = true → s.tables.check = none ∧ s.tables.standby.passed)

/-! ### Request engine -/

/-- There are 8 slots, and the records of the outcome list and the occupied slots together number at most 16 (R124). -/
def State.placesGood (s : State) : Prop :=
  s.request.slots.length = 8 ∧ s.request.outcomes.length + s.request.occupied.length ≤ 16

/-- Whenever authority does not hold, no request slot is occupied (R121), and so every output stands off (R128). -/
def State.authorityGood (s : State) : Prop :=
  s.request.authority = false → s.request.occupied = [] ∧ s.commandedOn = []

/-- The outputs that the point of a slot names, in the active bank. -/
def State.slotOutputs (s : State) (sl : Slot) : List Nat :=
  match s.active? with
  | none => []
  | some b => b.memory.pointOutputs sl.point

/-- No two occupied slots name one output, and no blocked output belongs to an occupied slot (R126, R128, R134). -/
def State.outputsApart (s : State) : Prop :=
  s.request.occupied.Pairwise (fun x y => ∀ o ∈ s.slotOutputs x, o ∉ s.slotOutputs y)
    ∧ ∀ sl ∈ s.request.occupied, ∀ o ∈ s.slotOutputs sl, o ∉ s.request.blocked

/-- The table of R130, with the endings of R125: `t` has the slots that follow once the steps and counts of the slots of `s` stand as
`brought` makes them. A free slot stays free; a slot with a step that is not DONE goes on RUNNING; with every step DONE it ends DONE
where its point `b` gives no proof, waits PROVING below the proof count, and ends NOT_PROVED from it on. The records of the slots that
end stand behind those of `s`, in slot order, with the time base value. -/
def State.slotsFollow (s t : State) (b : Bank) (brought : Slot → Slot) : Prop :=
  (∀ k : Nat, s.request.slots[k]? = some none → t.request.slots[k]? = some none)
    ∧ (∀ (k : Nat) (sl u : Slot), s.request.slots[k]? = some (some sl) → u = brought sl →
        (u.allDone = false → t.request.slots[k]? = some (some { u with state := .running }))
        ∧ (u.allDone = true → (b.pointCounts u.point).proof = none → t.request.slots[k]? = some none)
        ∧ ∀ p, u.allDone = true → (b.pointCounts u.point).proof = some p →
            t.request.slots[k]? = some (if u.count < p then some { u with state := .proving } else none))
    ∧ t.request.slots.length = s.request.slots.length
    ∧ t.request.outcomes = s.request.outcomes ++ (s.request.occupied.map brought).filterMap fun u =>
        let record (result : RequestResult) : OutcomeRecord :=
          { tag := u.tag, point := some u.point, result := result, stamp := s.report.timeBase, reasons := none }
        match u.allDone, (b.pointCounts u.point).proof with
        | false, _ => none
        | true, none => some (record .done)
        | true, some p => if u.count < p then none else some (record .notProved)

/-! ### Object evaluator -/

/-- With no bank active there is no image. With one, the image holds an entry for each object in use, whose terms have the sources of the
bank's table; and the entry is the indication and quality that the terms' current values and qualities give (R83, R90, R91, R100). The
table of a checked bank gives every object in use a term (R84). -/
def State.imageGood (s : State) : Prop :=
  match s.active? with
  | none => s.evaluator.objects = []
  | some b => s.evaluator.objects.length = b.memory.objectCount
      ∧ ∀ (j : Nat) (o : ObjectState), s.evaluator.objects[j]? = some o →
        o.terms.map TermState.source = (b.memory.objectEntry j).terms.map TermEntry.source
          ∧ (o.terms ≠ [] → o.entry = shownEntry b.memory (b.memory.objectEntry j) o.terms)

/-! ### Flasher monitor -/

/-- The period in use lies between 3/4 and 5/4 of the active bank's nominal period, inclusive (R64). -/
def State.periodGood (s : State) : Prop :=
  ∀ b p, s.active? = some b → s.flasher.period = some p → 3 * b.counts.nominal ≤ 4 * p ∧ 4 * p ≤ 5 * b.counts.nominal

end Sys2Proof.Machine
end

