-- ==== Sys2Proof/Certificates/Slice0/Obligations.lean ====
section
/-! DEFINITION. The statements for the provers. `{ t with desk := s.desk } = s` says that `t` and `s` agree in everything but the
desk port. -/

open Sys2Proof Sys2Proof.Machine

/-! ### The step -/

/-- A step carries out the command at the front of the queue on the state with the queue's rest. -/
def Obligations.StepRunsFrontCommand : Prop :=
  ∀ (s : State) (c : Instr) (rest : List Instr), s.pending = c :: rest → step s = exec c { s with pending := rest }

/-- On an empty queue one millisecond passes (the model's choice, log entry 4): both counts rise (R101), and the events that fall due
wait, each once, in some order. -/
def Obligations.MillisecondPasses : Prop :=
  ∀ s : State, s.pending = [] → ∃ t, step s = .next t
    ∧ t.report.timeBase = s.report.timeBase + 1 ∧ t.clock.own = s.clock.own + 1 ∧ t.clock.drawn = s.clock.drawn
    ∧ t.pending.Perm s.advance.due
    ∧ { t with loop := s.loop, report := s.report, tables := s.tables, clock := s.clock, pending := s.pending } = s

/-! ### Reset -/

/-- POWER_ON leaves every block at its power-on values, whatever stood before (R173). The model's choices: the waiting commands stay
waiting (log entry 25), and the bytes last sent at LOOP OUT and on the link stand empty (log entry 23). -/
def Obligations.PowerOnValues : Prop :=
  ∀ (straps : Byte) (outen link : Bool) (s : State), ∃ t, exec (.powerOn straps outen link) s = .next t
    ∧ t.report = ReportUnit.reset ∧ t.report.timeBase = 0 ∧ t.report.timeValid = false ∧ t.report.queue = [.restart 0 false]
    ∧ t.tables = TableStore.reset ∧ t.tables.selection = none ∧ t.loop = LoopController.reset ∧ t.loop.state = .idle
    ∧ t.filter = ContactFilter.reset ∧ t.flasher = FlasherMonitor.reset ∧ t.pairs = [] ∧ t.evaluator.objects = []
    ∧ t.evaluator.conditions = ⟨false, false, true, true, outen, true, false, false⟩
    ∧ t.request = { RequestEngine.reset with outen := outen, reasons := ⟨true, true, true, true, false, !outen⟩ }
    ∧ t.request.authority = false ∧ t.request.slots = List.replicate 8 none ∧ t.request.outcomes = [] ∧ t.request.blocked = []
    ∧ t.request.carried = [] ∧ t.request.lastKeepalive = none ∧ t.request.expired = false ∧ t.request.mismatch = false
    ∧ t.request.changeover = none ∧ t.request.proofs = [] ∧ t.request.discarded = 0
    ∧ t.desk = { DeskPort.reset with ownAddress := t.desk.ownAddress, linkUp := link }
    ∧ t.desk.ownAddress.toNat = 0x024F50540000 + straps.toNat ∧ t.pending = s.pending

/-- The RESET pin acts as a restart without keep-tables with the time base at 0; the own address and the send list are kept (R173,
R174). The model's choices: OUTEN and the link stay as last reported (log entry 31), the own millisecond count runs on (log entry 11),
the waiting commands stay waiting (log entry 25), and the bytes last sent stand (log entry 23). -/
def Obligations.ResetPinValues : Prop :=
  ∀ s : State, ∃ t, exec .resetPin s = .next t
    ∧ t.report = ReportUnit.reset ∧ t.tables = TableStore.reset ∧ t.loop = { LoopController.reset with loopOut := s.loop.loopOut }
    ∧ t.filter = ContactFilter.reset ∧ t.flasher = FlasherMonitor.reset ∧ t.pairs = [] ∧ t.evaluator.objects = []
    ∧ t.evaluator.conditions = ⟨false, false, true, true, s.request.outen, true, false, false⟩
    ∧ t.request = { RequestEngine.reset with outen := s.request.outen, reasons := ⟨true, true, true, true, false, !s.request.outen⟩ }
    ∧ t.request.authority = false ∧ t.request.slots = List.replicate 8 none ∧ t.request.outcomes = [] ∧ t.request.blocked = []
    ∧ t.desk = { DeskPort.reset with
        ownAddress := s.desk.ownAddress, linkUp := s.desk.linkUp, sendList := s.desk.sendList, wire := s.desk.wire }
    ∧ t.clock = s.clock ∧ t.pending = s.pending

/-- RESTART that leaves no bank active, with the flag clear or with it set while no bank is active: the reply OK goes to the send list,
every block stands at its restart values, the queue holds the RESTART marker with the flag alone, and the time base runs on (R172). With
the flag clear both banks are EMPTY; with it set they are kept with their images, CRCs, results and count sets, but for one in CHECKING,
which becomes LOADING (R160). The model's choices: OUTEN and the link stay as last reported (log entry 31), the own millisecond count
runs on (log entry 11), the waiting commands stay waiting (log entry 25), and the bytes last sent stand (log entry 23). -/
def Obligations.RestartWithoutTables : Prop :=
  ∀ (s : State) (x : RxMessage) (rest : List RxMessage) (keep : Bool),
    s.offers x rest 0x05 → s.rightsOf x.source = .maintain →
    (keep = false ∧ x.content = [0] ∨ keep = true ∧ x.content = [1] ∧ s.active? = none) → ∃ t, exec .restart s = .next t
    ∧ t.desk = { s.desk with
        receiveQueue := [], sendList := s.desk.sendList ++ [replyFrame x.source x.taken.tag 0x05 .ok []],
        fcsErrors := 0, malformed := 0, overflows := 0, controlDropped := 0, notSent := 0 }
    ∧ t.report = { ReportUnit.reset with
        timeBase := s.report.timeBase, timeValid := s.report.timeValid, queue := [.restart s.report.timeBase keep] }
    ∧ (keep = false → t.tables = TableStore.reset)
    ∧ (keep = true → t.tables.selection = none ∧ t.tables.check = none ∧ t.tables.switchPending = false
        ∧ ∀ n, t.tables.bank n =
            if (s.tables.bank n).state = .checking then { s.tables.bank n with state := .loading } else s.tables.bank n)
    ∧ t.loop = { LoopController.reset with loopOut := s.loop.loopOut } ∧ t.loop.state = .idle
    ∧ t.filter = ContactFilter.reset ∧ t.flasher = FlasherMonitor.reset ∧ t.pairs = [] ∧ t.evaluator.objects = []
    ∧ t.evaluator.conditions = ⟨false, false, true, true, s.request.outen, true, s.report.timeValid, false⟩
    ∧ t.request = { RequestEngine.reset with outen := s.request.outen, reasons := ⟨true, true, true, true, false, !s.request.outen⟩ }
    ∧ t.request.authority = false ∧ t.request.slots = List.replicate 8 none ∧ t.request.outcomes = []
    ∧ t.clock = s.clock ∧ t.pending = s.pending

/-- RESTART with keep-tables while a bank is active: the reply OK goes to the send list; both banks stay with their images, CRCs, results
and count sets, but for one in CHECKING, which becomes LOADING; the bank stays active, the loop surveys one sweep period later, the queue
begins with the RESTART marker, and no request, force, check or pending switch is left (R23, R52, R81, R139, R160, R172). The reasons
against authority are LOOP_NOT_RUNNING, CHANGEOVER_NOT_DESK and KEEPALIVE_MISSING, and OUTEN_LOW where the pin is low; carried states are
absent and proof sources UNKNOWN (R123, R139). The conditions are those of R98, with QUEUE_NORMAL 0 only where the reset round's own
records have overrun the queue (R108). The model's choices: OUTEN and the link stay as last reported (log entry 31), the own millisecond
count runs on over the restart (log entry 11), the waiting commands stay waiting (log entry 25), and the frame last sent stands (log
entry 23). -/
def Obligations.RestartWithTables : Prop :=
  ∀ (s : State) (b : Bank) (x : RxMessage) (rest : List RxMessage),
    s.offers x rest 0x05 → s.rightsOf x.source = .maintain → x.content = [1] → s.active? = some b → ∃ t, exec .restart s = .next t
    ∧ t.tables.selection = s.tables.selection ∧ t.tables.bankA.memory = s.tables.bankA.memory
    ∧ t.tables.bankB.memory = s.tables.bankB.memory ∧ t.tables.check = none ∧ t.tables.switchPending = false
    ∧ (∀ n, t.tables.bank n =
        if (s.tables.bank n).state = .checking then { s.tables.bank n with state := .loading } else s.tables.bank n)
    ∧ t.loop.state = .survey ∧ t.loop.restartDelay = some b.memory.sweepPeriod ∧ t.loop.sweepTimer = none ∧ t.loop.inFlight = none
    ∧ t.loop.positions = List.replicate 32 PositionRecord.reset ∧ t.filter.forced = []
    ∧ (∀ y ∈ t.filter.inputs, y.2.debounced = none) ∧ (∀ y ∈ t.pairs, y.2.state = .unknown ∧ y.2.quality = .unknown)
    ∧ t.flasher.period = some b.counts.nominal ∧ t.flasher.measuring = false
    ∧ t.request.authority = false ∧ t.request.slots = List.replicate 8 none ∧ t.request.outcomes = [] ∧ t.request.blocked = []
    ∧ t.request = { RequestEngine.reset with
        outen := s.request.outen, reasons := ⟨false, true, true, true, false, !s.request.outen⟩,
        changeover := some (.unknown, .unknown), proofs := t.request.proofs }
    ∧ (∀ k, t.request.carriedOf k = { state := none, grace := 0 })
    ∧ (∀ ps ∈ t.request.proofs, ps.value = none ∧ ps.quality = .unknown)
    ∧ (∀ q src, q < 256 → b.memory.defined q = true → b.memory.proofSource? q = some src → ∃ ps ∈ t.request.proofs, ps.source = src)
    ∧ t.evaluator.conditions.loopRunning = false ∧ t.evaluator.conditions.authority = false
    ∧ (t.evaluator.conditions.flasherOk = true ↔ b.memory.reference? = none)
    ∧ (t.evaluator.conditions.queueNormal = true ↔ t.report.queueState = .normal)
    ∧ t.evaluator.conditions.outen = s.request.outen ∧ t.evaluator.conditions.outputsHealthy = true
    ∧ t.evaluator.conditions.timeValid = s.report.timeValid
    ∧ (t.evaluator.conditions.cardsHealthy = true ↔ ∀ p, p < 32 → b.memory.expectedType p = 0)
    ∧ t.report.timeBase = s.report.timeBase ∧ t.report.timeValid = s.report.timeValid ∧ t.report.frameSequence = 0
    ∧ t.report.slicePointer = 0 ∧ t.report.timer = some b.memory.reportPeriod
    ∧ t.report.queue.head? = some (.restart s.report.timeBase true)
    ∧ t.desk = { s.desk with
        receiveQueue := [], sendList := s.desk.sendList ++ [replyFrame x.source x.taken.tag 0x05 .ok []],
        fcsErrors := 0, malformed := 0, overflows := 0, controlDropped := 0, notSent := 0 }
    ∧ t.clock = s.clock ∧ t.pending = s.pending

/-! ### Pins and the PHY -/

/-- LINK_STATUS_CHANGE: the link status follows the PHY, and nothing else changes (R162). OUTEN_CHANGE: condition 4 follows the pin,
the reason set and authority are judged again, and where authority does not hold no slot is left occupied (R118, R120, R121). -/
def Obligations.LinkAndOutenAreFollowed : Prop :=
  (∀ (s : State) (up : Bool), exec (.linkStatusChange up) s = .next { s with desk := { s.desk with linkUp := up } })
  ∧ ∀ (s : State) (high : Bool), ∃ t, exec (.outenChange high) s = .next t
    ∧ t.request.outen = high ∧ t.evaluator.conditions.outen = high
    ∧ t.request.reasons = t.reasonSet ∧ t.request.authority = t.reasonSet.isEmpty ∧ t.request.reasons.outenLow = !high
    ∧ ((s.request.authority = false → s.request.occupied = []) → t.request.authority = false → t.request.occupied = [])
    ∧ (t.request.authority = true → t.request.slots = s.request.slots ∧ t.request.outcomes = s.request.outcomes)
    ∧ { t with evaluator := s.evaluator, report := s.report, request := s.request } = s

/-! ### The loop -/

/-- SWEEP_DUE in RUNNING with the last sweep returned and nothing waiting: the next READ sweep leaves (R1, R3) as the frame of R2 and
R175, whose sections carry the outputs that a step of an occupied slot has ON (R128). Every occupied slot counts it, and its steps and
its ending follow (R129, R130). Every output of an expected output card takes the state its section carried, with grace 2 where that is
new (R133). -/
def Obligations.SweepDueSendsReadSweep : Prop :=
  ∀ (s : State) (b : Bank) (n : Nat) (sw : Sweep), s.active? = some b → s.loop.sweepTimer = some n → s.loop.state = .running →
    s.loop.inFlight = none → s.loop.pendingResurvey = false → s.loop.pendingReadmit = [] → s.tables.switchPending = false →
    sw = { kind := .read, number := s.loop.sweepNumber + 1, phase := s.loop.phase,
           mask := positionMask fun p => decide ((s.loop.position p).judged = .active) && (b.memory.phaseSet p).testBit s.loop.phase,
           time := s.report.timeBase } → ∃ t, exec .sweepDue s = .next t
    ∧ t.loop = { s.loop with
        inFlight := some sw, sweepNumber := s.loop.sweepNumber + 1, phase := (s.loop.phase + 1) % 4,
        sweepsSent := s.loop.sweepsSent + 1, sweepTimer := some b.memory.sweepPeriod,
        loopOut := sweepFrame sw b.memory.outputPositions s.commandedOn }
    ∧ t.loop.loopOut.take 12 = 2 :: (toBytes 4 sw.number.toNat ++ BitVec.ofNat 8 sw.phase :: toBytes 4 sw.mask.toNat)
        ++ [0, BitVec.ofNat 8 b.memory.outputPositions.length]
    ∧ (t.loop.loopOut.drop 12).take 2 = toBytes 2
        (crc16 (t.loop.loopOut.take 10 ++ (t.loop.loopOut.drop 11).take 1 ++ t.loop.loopOut.drop 14)).toNat
    ∧ t.loop.loopOut.drop 14 = b.memory.outputPositions.flatMap (fun p => BitVec.ofNat 8 p :: toBytes 2 (outputBits s.commandedOn p).toNat)
    ∧ (∀ p j, j < 16 → (outputBits s.commandedOn p).getLsbD j = decide (outputKey p j ∈ s.commandedOn))
    ∧ (∀ o, o ∈ s.commandedOn ↔ ∃ sl ∈ s.request.occupied, ∃ k : Nat,
        (b.memory.pointOutputs sl.point)[k]? = some o ∧ sl.steps[k]? = some .on)
    ∧ s.slotsFollow t b (fun sl =>
        { sl with count := sl.count + 1, steps := List.zipWith (stepAfter (sl.count + 1)) (b.pointCounts sl.point).steps sl.steps })
    ∧ (∀ p ∈ b.memory.outputPositions, ∀ j, j < 16 → t.request.carriedOf (outputKey p j) =
        if (s.request.carriedOf (outputKey p j)).state = some (decide (outputKey p j ∈ s.commandedOn))
        then s.request.carriedOf (outputKey p j) else { state := some (decide (outputKey p j ∈ s.commandedOn)), grace := 2 })
    ∧ (∀ k, (∀ p ∈ b.memory.outputPositions, ∀ j, j < 16 → k ≠ outputKey p j) → t.request.carriedOf k = s.request.carriedOf k)
    ∧ { t.request with slots := s.request.slots, outcomes := s.request.outcomes, carried := s.request.carried } = s.request
    ∧ { t with loop := s.loop, request := s.request } = s

/-- SWEEP_DUE with a sweep still in flight, not the third lost in a row: it is judged lost, and the next sweep leaves (R1). In RUNNING,
every position of the read mask counts a missed read, stopping at 3 (R11). In SURVEY, the held list is discarded (R15), every ACTIVE
position whose phase set holds the sweep's phase counts a missed read (R17), and the next survey sweep leaves. -/
def Obligations.LostSweepCountsMissedReads : Prop :=
  (∀ (s : State) (b : Bank) (n : Nat) (sw : Sweep), s.active? = some b → s.loop.sweepTimer = some n → s.loop.state = .running →
    s.loop.inFlight = some sw → sw.kind = .read → s.loop.lostCount < 2 → s.loop.positions.length = 32 →
    s.loop.pendingResurvey = false → s.loop.pendingReadmit = [] → s.tables.switchPending = false → ∃ t, exec .sweepDue s = .next t
    ∧ t.loop.sweepsLost = s.loop.sweepsLost + 1 ∧ t.loop.lostCount = s.loop.lostCount + 1 ∧ t.loop.state = .running
    ∧ t.loop.sweepsSent = s.loop.sweepsSent + 1 ∧ t.loop.sweepTimer = some b.memory.sweepPeriod
    ∧ (∃ sw', t.loop.inFlight = some sw' ∧ sw'.kind = .read ∧ sw'.number = s.loop.sweepNumber + 1 ∧ sw'.phase = s.loop.phase)
    ∧ (∀ p, p < 32 → (t.loop.position p).missed =
        if sw.mask.getLsbD p then min 3 ((s.loop.position p).missed + 1) else (s.loop.position p).missed)
    ∧ t.tables = s.tables ∧ t.desk = s.desk ∧ t.clock = s.clock ∧ t.pending = s.pending)
  ∧ ∀ (s : State) (b : Bank) (n : Nat) (sw : Sweep), s.active? = some b → s.loop.sweepTimer = some n → s.loop.state = .survey →
    s.loop.inFlight = some sw → sw.kind = .survey → s.loop.lostCount < 2 → s.loop.positions.length = 32 →
    s.loop.pendingResurvey = false → s.loop.pendingReadmit = [] → s.tables.switchPending = false → ∃ t, exec .sweepDue s = .next t
    ∧ t.loop.sweepsLost = s.loop.sweepsLost + 1 ∧ t.loop.lostCount = s.loop.lostCount + 1 ∧ t.loop.state = .survey
    ∧ t.loop.heldList = none ∧ t.loop.sweepsSent = s.loop.sweepsSent + 1 ∧ t.loop.sweepTimer = some b.memory.sweepPeriod
    ∧ t.loop.inFlight = some
        { kind := .survey, number := s.loop.sweepNumber, phase := s.loop.phase, mask := 0xFFFFFFFF#32, time := s.report.timeBase }
    ∧ (∀ p, p < 32 → (t.loop.position p).judged = (s.loop.position p).judged ∧ (t.loop.position p).missed =
        if (s.loop.position p).judged = .active ∧ (b.memory.phaseSet p).testBit sw.phase = true
        then min 3 ((s.loop.position p).missed + 1) else (s.loop.position p).missed)
    ∧ t.tables = s.tables ∧ t.desk = s.desk ∧ t.clock = s.clock ∧ t.pending = s.pending

/-- The third lost sweep in a row, with no switch pending: the loop is DOWN, sends no sweep, waits 1,000 ms, every input turns UNKNOWN
and authority is lost (R1, R18, R43, R121). That ENTER_DOWN as a command of its own is that whole sweep due event is the model's choice
(log entry 3). What a pending switch does there is in SwitchTakesEffect. -/
def Obligations.ThirdLostSweepEntersDown : Prop :=
  ∀ c ∈ [Instr.sweepDue, Instr.enterDown], ∀ (s : State) (b : Bank) (n : Nat) (sw : Sweep), s.active? = some b →
    s.loop.sweepTimer = some n → s.loop.inFlight = some sw → s.loop.lostCount = 2 → s.tables.switchPending = false →
    s.loop.positions.length = 32 → ∃ t, exec c s = .next t
    ∧ t.loop.state = .down ∧ t.loop.sweepTimer = none ∧ t.loop.inFlight = none ∧ t.loop.lostCount = 0 ∧ t.loop.heldList = none
    ∧ t.loop.upTime = 0 ∧ t.loop.retryWait = some 1000 ∧ t.loop.sweepsSent = s.loop.sweepsSent
    ∧ t.loop.sweepsLost = s.loop.sweepsLost + 1
    ∧ (∀ p, p < 32 → (t.loop.position p).judged = (s.loop.position p).judged
        ∧ ((s.loop.position p).judged = .active → (t.loop.position p).missed = 3))
    ∧ (∀ y ∈ t.filter.inputs, (b.memory.mapEntry y.1).position < 32 → y.2.debounced = none ∧ y.2.settled = none)
    ∧ t.request.authority = false ∧ ((s.request.authority = false → s.request.occupied = []) → t.request.occupied = [])
    ∧ t.tables = s.tables ∧ t.desk = s.desk ∧ t.clock = s.clock ∧ t.pending = s.pending

/-- A survey sweep leaves, its mask naming every position (R3, R14): at once on RETRY_WAIT_EXPIRY in DOWN (R18); on RESTART_SURVEY_DELAY
one sweep period after a restart (R23); on SWEEP_DUE with a RESURVEY or READMIT_CARD waiting, when the loop enters SURVEY or begins its
survey again and a waiting ISOLATED position becomes MISSING with score 0 (R20, R21); and on any SWEEP_DUE in SURVEY (R1). No switch is
pending. -/
def Obligations.SurveySweepBegins : Prop :=
  ∀ (s : State) (b : Bank) (n : Nat), s.active? = some b → s.tables.switchPending = false →
    (s.loop.state = .down → s.loop.retryWait = some n → ∃ t, exec .retryWaitExpiry s = .next t
      ∧ t.loop.state = .survey ∧ t.loop.heldList = none ∧ t.loop.excess = false ∧ t.loop.retryWait = none
      ∧ t.loop.inFlight = some
          { kind := .survey, number := s.loop.sweepNumber, phase := s.loop.phase, mask := 0xFFFFFFFF#32, time := s.report.timeBase }
      ∧ t.loop.sweepTimer = some b.memory.sweepPeriod ∧ t.loop.phase = (s.loop.phase + 1) % 4
      ∧ t.loop.sweepsSent = s.loop.sweepsSent + 1 ∧ t.loop.pendingResurvey = false ∧ t.loop.pendingReadmit = []
      ∧ t.tables = s.tables ∧ t.desk = s.desk ∧ t.clock = s.clock ∧ t.pending = s.pending)
    ∧ (s.loop.state = .survey → s.loop.restartDelay = some 0 → ∃ t, exec .restartSurveyDelay s = .next t
      ∧ t.loop.state = .survey ∧ t.loop.restartDelay = none
      ∧ t.loop.inFlight = some
          { kind := .survey, number := s.loop.sweepNumber, phase := s.loop.phase, mask := 0xFFFFFFFF#32, time := s.report.timeBase }
      ∧ t.loop.sweepTimer = some b.memory.sweepPeriod ∧ t.loop.phase = (s.loop.phase + 1) % 4
      ∧ t.loop.sweepsSent = s.loop.sweepsSent + 1
      ∧ t.tables = s.tables ∧ t.desk = s.desk ∧ t.clock = s.clock ∧ t.pending = s.pending)
    ∧ (s.loop.sweepTimer = some n → s.loop.inFlight = none → (s.loop.state = .running ∨ s.loop.state = .survey) →
        (s.loop.pendingResurvey = true ∨ s.loop.pendingReadmit ≠ []) → s.loop.positions.length = 32 → ∃ t, exec .sweepDue s = .next t
      ∧ t.loop.state = .survey ∧ t.loop.heldList = none ∧ t.loop.excess = false ∧ t.loop.upTime = 0
      ∧ t.loop.pendingResurvey = false ∧ t.loop.pendingReadmit = []
      ∧ t.loop.inFlight = some
          { kind := .survey, number := s.loop.sweepNumber, phase := s.loop.phase, mask := 0xFFFFFFFF#32, time := s.report.timeBase }
      ∧ t.loop.sweepTimer = some b.memory.sweepPeriod ∧ t.loop.phase = (s.loop.phase + 1) % 4
      ∧ t.loop.sweepsSent = s.loop.sweepsSent + 1
      ∧ (∀ p, p < 32 → t.loop.position p =
          if p ∈ s.loop.pendingReadmit ∧ (s.loop.position p).judged = .isolated
          then { s.loop.position p with judged := .missing, score := 0 } else s.loop.position p)
      ∧ t.evaluator.conditions.loopRunning = false ∧ t.request.authority = false
      ∧ t.tables = s.tables ∧ t.desk = s.desk ∧ t.clock = s.clock ∧ t.pending = s.pending)
    ∧ (s.loop.sweepTimer = some n → s.loop.inFlight = none → s.loop.state = .survey → s.loop.pendingResurvey = false →
        s.loop.pendingReadmit = [] → ∀ sw : Sweep,
        sw = { kind := .survey, number := s.loop.sweepNumber, phase := s.loop.phase, mask := 0xFFFFFFFF#32, time := s.report.timeBase } →
        ∃ t, exec .sweepDue s = .next t
      ∧ t.loop = { s.loop with
          inFlight := some sw, phase := (s.loop.phase + 1) % 4, sweepsSent := s.loop.sweepsSent + 1,
          sweepTimer := some b.memory.sweepPeriod, loopOut := sweepFrame sw b.memory.outputPositions s.commandedOn }
      ∧ { t with loop := s.loop, request := s.request } = s)

/-- LOOP_IN_FRAME: a frame that is not the return of the sweep in flight is discarded with its reports (R7). In RUNNING, the return of
the READ sweep in flight completes the sweep (R7): its reports are taken one by one in frame order and then settled (R8). A good report
of a position 32 or greater sets EXCESS, and a corrupt one is counted (R8). A report of a position not asked or with an outcome already
does nothing more (R8). A corrupt report raises the score by 8, and at 64 or more the position is ISOLATED and its inputs turn UNKNOWN
(R10, R43). A report of the expected card at an ACTIVE position is accepted: missed reads 0, score down by 1, SUPPLY_LOW as reported
(R9); an input card's report goes to the contact filter, the flasher monitor and the pair unit (R39, R61, R70), an output card's without
SUPPLY_LOW to the readback check (R134). Another card is an identity mismatch, and the loop surveys (R12). Every position asked and not
accepted counts a missed read (R11). -/
def Obligations.ReadSweepReturns : Prop :=
  (∀ (s : State) (frame : List Byte),
    (∀ b sw, s.active? = some b → s.loop.inFlight = some sw → isReturnOf b.memory.outputPositions.length frame sw = false) →
    exec (.loopInFrame frame) s = .next s)
  ∧ (∀ (s : State) (b : Bank) (sw : Sweep) (frame : List Byte), s.active? = some b → s.loop.state = .running →
    s.loop.inFlight = some sw → sw.kind = .read → isReturnOf b.memory.outputPositions.length frame sw = true →
    exec (.loopInFrame frame) s = .next (((frameReports frame).foldl (FrameWalk.take b sw)
        { st := { s with loop := { s.loop with lostCount := 0, inFlight := none, lastCompleted := sw.number } },
          outcomes := [], accepted := [], mismatch := false }).settle sw)
    ∧ ∃ t, exec (.loopInFrame frame) s = .next t
    ∧ t.loop.inFlight = none ∧ t.loop.lostCount = 0 ∧ t.loop.lastCompleted = sw.number
    ∧ t.loop.sweepTimer = s.loop.sweepTimer ∧ t.loop.sweepNumber = s.loop.sweepNumber ∧ t.loop.phase = s.loop.phase
    ∧ t.loop.sweepsSent = s.loop.sweepsSent ∧ t.loop.sweepsLost = s.loop.sweepsLost
    ∧ (t.loop.state = .running ∨ t.loop.state = .survey)
    ∧ (frameReports frame = [] → s.loop.positions.length = 32 → t.loop.state = .running
        ∧ ∀ p, p < 32 → (t.loop.position p).missed =
            if sw.mask.getLsbD p then min 3 ((s.loop.position p).missed + 1) else (s.loop.position p).missed)
    ∧ t.tables = s.tables ∧ t.desk = s.desk ∧ t.clock = s.clock ∧ t.pending = s.pending)
  ∧ (∀ (l : LoopController) (r : CardReport),
    (r.good = true → l.sortReport r = if 32 ≤ r.position then { l with excess := true } else l)
    ∧ (r.good = false → l.sortReport r =
        { l with positions := l.positions.modify r.position fun x => { x with corrupt := x.corrupt + 1 } }))
  ∧ (∀ (b : Bank) (sw : Sweep) (w : FrameWalk) (r : CardReport) (sorted : State), w.st.active? = some b →
    w.st.loop.positions.length = 32 → sorted = { w.st with loop := w.st.loop.sortReport r } →
    ((32 ≤ r.position ∨ sw.mask.getLsbD r.position = false ∨ r.position ∈ w.outcomes) →
        FrameWalk.take b sw w r = { w with st := sorted })
    ∧ (r.position < 32 → sw.mask.getLsbD r.position = true → r.position ∉ w.outcomes → ∀ p, p = r.position → ∀ card,
        card = w.st.loop.position p → ∀ w', w' = FrameWalk.take b sw w r →
        (r.good = false → w'.outcomes = p :: w.outcomes ∧ w'.accepted = w.accepted ∧ w'.mismatch = w.mismatch
          ∧ w'.st.loop.position p =
              { card with
                corrupt := card.corrupt + 1, score := card.score + 8, judged := if 64 ≤ card.score + 8 then .isolated else card.judged }
          ∧ (∀ q, q < 32 → q ≠ p → w'.st.loop.position q = w.st.loop.position q)
          ∧ (card.score + 8 < 64 → { w'.st with loop := w.st.loop } = w.st)
          ∧ (64 ≤ card.score + 8 → ∀ y ∈ w'.st.filter.inputs, (b.memory.mapEntry y.1).position = p →
              y.2.debounced = none ∧ y.2.settled = none))
        ∧ (r.good = true → card.judged ≠ .active → w' = { w with st := sorted })
        ∧ (r.good = true → card.judged = .active →
            ¬(r.card.cardType.toNat = b.memory.expectedType p ∧ r.card.identity &&& b.memory.identityMask p = b.memory.identityValue p) →
            w' = { w with st := sorted, mismatch := true })
        ∧ (r.good = true → card.judged = .active → r.card.cardType.toNat = b.memory.expectedType p →
            r.card.identity &&& b.memory.identityMask p = b.memory.identityValue p →
            w'.outcomes = p :: w.outcomes ∧ w'.accepted = p :: w.accepted ∧ w'.mismatch = w.mismatch
            ∧ w'.st.loop.position p = { card with missed := 0, score := card.score - 1, supplyLow := r.supplyLow }
            ∧ (∀ q, q < 32 → q ≠ p → w'.st.loop.position q = w.st.loop.position q)
            ∧ (b.memory.expectedType p = 1 → ∀ fed, fed =
                  w.st.filter.applyReport b (w.st.flasher.period.getD 0) p (beNat r.values) r.supplyLow sw.time →
                w'.st.filter = fed.1 ∧ w'.st.flasher = w.st.flasher.takeReport b p w.st.filter fed.1
                ∧ w'.st.pairs = (takePairs b fed.1 w.st.pairs fed.2 (some (p, sw.time))).1)
            ∧ (b.memory.expectedType p = 2 → w'.st.filter = w.st.filter ∧ w'.st.flasher = w.st.flasher ∧ w'.st.pairs = w.st.pairs
                ∧ w'.st.request = if r.supplyLow then w.st.request
                  else (w.st.request.checkCard p (fieldAt r.values 0 2)).endBlocked w.st.request b.memory sw.time))))
  ∧ ∀ (w : FrameWalk) (sw : Sweep), w.st.loop.positions.length = 32 →
    (∀ p, p < 32 → (w.settle sw).loop.position p =
      if sw.mask.getLsbD p = true ∧ p ∉ w.accepted then { w.st.loop.position p with missed := min 3 ((w.st.loop.position p).missed + 1) }
      else w.st.loop.position p)
    ∧ (w.mismatch = false → (w.settle sw).loop.state = w.st.loop.state)
    ∧ (w.mismatch = true → (w.settle sw).loop.state = .survey ∧ (w.settle sw).loop.heldList = none
        ∧ (w.settle sw).loop.excess = false ∧ (w.settle sw).request.authority = false)

/-- LOOP_IN_FRAME in SURVEY with the return of the survey sweep in flight: unclean, it discards the held list; clean with another list,
that list is held; clean with the held list, every position is judged and the loop is RUNNING (R15, R16). The ACTIVE positions of the
sweep's phase count a missed read (R17), before the judgement (log entry 13), and a position that becomes ACTIVE begins with 3 missed
reads and SUPPLY_LOW clear (R16). That a position judged otherwise keeps its missed reads and SUPPLY_LOW (log entry 29) and that
the list is held no longer once the survey is complete (log entry 38) are the model's readings. -/
def Obligations.SurveySweepReturns : Prop :=
  ∀ (s : State) (b : Bank) (sw : Sweep) (frame : List Byte), s.active? = some b → s.loop.state = .survey → s.loop.inFlight = some sw →
    sw.kind = .survey → isReturnOf b.memory.outputPositions.length frame sw = true → s.loop.positions.length = 32 →
    ∃ t, exec (.loopInFrame frame) s = .next t
    ∧ t.loop.inFlight = none ∧ t.loop.lostCount = 0 ∧ t.loop.lastCompleted = s.loop.lastCompleted
    ∧ (cleanSurvey (frameHops frame) (frameReports frame) = false → t.loop.state = .survey ∧ t.loop.heldList = none)
    ∧ (cleanSurvey (frameHops frame) (frameReports frame) = true → s.loop.heldList ≠ some (cardList (frameReports frame)) →
        t.loop.state = .survey ∧ t.loop.heldList = some (cardList (frameReports frame)))
    ∧ (t.loop.state = .survey → ∀ p, p < 32 → (t.loop.position p).judged = (s.loop.position p).judged)
    ∧ (cleanSurvey (frameHops frame) (frameReports frame) = true → s.loop.heldList = some (cardList (frameReports frame)) →
        t.loop.state = .running ∧ t.loop.heldList = none ∧ t.loop.sweepNumber = 0 ∧ t.loop.upTime = 0
        ∧ ∀ p, p < 32 → (t.loop.position p).surveyed = (cardList (frameReports frame))[p]?
            ∧ (t.loop.position p).judged =
                if (s.loop.position p).judged = .isolated then .isolated
                else if b.memory.expectedType p = 0 then .notExpected
                else
                  match (cardList (frameReports frame))[p]? with
                  | none => .missing
                  | some c =>
                    if c.cardType.toNat = b.memory.expectedType p ∧ c.identity &&& b.memory.identityMask p = b.memory.identityValue p
                    then .active else .wrongCard)
    ∧ (∀ p, p < 32 →
        ((s.loop.position p).judged ≠ .active → (t.loop.position p).judged = .active →
          (t.loop.position p).missed = 3 ∧ (t.loop.position p).supplyLow = false)
        ∧ (((s.loop.position p).judged = .active ∨ (t.loop.position p).judged ≠ .active) →
          (t.loop.position p).supplyLow = (s.loop.position p).supplyLow ∧ (t.loop.position p).missed =
            if (s.loop.position p).judged = .active ∧ (b.memory.phaseSet p).testBit sw.phase = true
            then min 3 ((s.loop.position p).missed + 1) else (s.loop.position p).missed))
    ∧ t.tables = s.tables ∧ t.desk = s.desk ∧ t.clock = s.clock ∧ t.pending = s.pending

/-- READMIT_CARD and RESURVEY: answered OK, they wait for the next sweep; without their conditions they are refused (R20, R21). -/
def Obligations.SurveyRequestsWait : Prop :=
  ∀ (s : State) (x : RxMessage) (rest : List RxMessage), s.rightsOf x.source = .maintain → s.checking = false →
    (s.offers x rest 0x24 → x.content = [] →
      exec .resurvey s = .next
        (if s.active? = none then (s.afterTaking rest).repliedTo x 0x24 .noActive []
        else ({ s with loop := { s.loop with pendingResurvey := true } }.afterTaking rest).repliedTo x 0x24 .ok []))
    ∧ ∀ p : Byte, s.offers x rest 0x23 → x.content = [p] →
      exec .readmitCard s = .next
        (if s.active? = none then (s.afterTaking rest).repliedTo x 0x23 .noActive []
        else if 32 ≤ p.toNat then (s.afterTaking rest).repliedTo x 0x23 .badIndex []
        else if (s.loop.position p.toNat).judged ≠ .isolated then (s.afterTaking rest).repliedTo x 0x23 .notFound []
        else ({ s with loop := { s.loop with pendingReadmit := setInsert p.toNat s.loop.pendingReadmit } }.afterTaking rest).repliedTo x
          0x23 .ok [])

/-! ### Contacts, flasher, pairs -/

/-- CARD_OUTAGE_UNKNOWN: where a condition of R43 holds for the position, its inputs turn UNKNOWN, and no other input's state
changes (R43). That it is an event of its own on a state where the condition stands is the model's choice (log entry 3). -/
def Obligations.OutageTurnsInputsUnknown : Prop :=
  ∀ (s : State) (b : Bank) (p : Nat) (stamp : Stamp), s.active? = some b → s.outage p = true →
    ∃ t, exec (.cardOutageUnknown p stamp) s = .next t
    ∧ t.filter.inputs = s.filter.inputs.map (fun y =>
        if (b.memory.mapEntry y.1).position = p then
          (y.1, { y.2 with debounced := none, candidate := none, count := 0, settled := none, run := none })
        else y)
    ∧ t.filter.forced = s.filter.forced ∧ t.loop = s.loop ∧ t.tables = s.tables ∧ t.desk = s.desk ∧ t.clock = s.clock
    ∧ t.pending = s.pending

/-- What a report does to an input. With SUPPLY_LOW it turns UNKNOWN (R45), and an UNKNOWN input resumes at the read value, stamped with
the sweep time (R46). A read value equal to the debounced value discards any candidate (R40); another is counted, and at the debounce
count it becomes the debounced value, stamped with its first-seen time (R41). That is all for an input that is not flash-classified,
whose settled value is its debounced value. DEBOUNCE_SETTLE, that settling as an event of its own on a candidate that stands at its
count, is the model's choice (log entry 3); it changes no other input. A flash-classified input's debounced value and candidate follow
the same rules, and its run counts the read unless it has outlasted (R55). A settled transition ends the run: of a steady input, one that
is neither open-start nor outlasted and whose length is 3/8 to 5/8 of the period in use raises h by 1 and any other makes h 0 (R31, R56);
a run that begins at the transition's first-seen time, at the debounce count, takes its place; and where h reaches 2 the input is
FLASHING, stamped with the first qualifying run's start (R58). A FLASHING input keeps h (R59). A run whose certain length passes 5/8 of
the period outlasts: the settled value is the debounced value, stamped with the run's start, and h is 0 (R55, R57, R59). At a resume an
open-start run of length 1 begins with h 0, at UNKNOWN the run is discarded, and a release leaves the input steady with h 0 (R60). -/
def Obligations.SettlingTakesTheFirstSeenTime : Prop :=
  (∀ (s : State) (b : Bank) (i : Nat) (st : InputState) (v : ContactValue) (time : Stamp), s.active? = some b →
    keyedGet i s.filter.inputs = some st → st.candidate = some v → b.debounceCount (b.memory.mapEntry i) v ≤ st.count →
    b.memory.flashClassified i = false → ∃ t, exec (.debounceSettle i time) s = .next t
    ∧ keyedGet i t.filter.inputs = some
        { st with debounced := some v, stamp := st.firstSeen, candidate := none, count := 0, settled := some v.settled }
    ∧ (∀ j, j ≠ i → keyedGet j t.filter.inputs = keyedGet j s.filter.inputs) ∧ t.filter.forced = s.filter.forced
    ∧ t.loop = s.loop ∧ t.tables = s.tables ∧ t.desk = s.desk ∧ t.clock = s.clock ∧ t.pending = s.pending)
  ∧ (∀ (b : Bank) (period i : Nat) (v : ContactValue) (time : Stamp) (st : InputState), b.memory.flashClassified i = false →
    (b.readInput period i v true time st).after =
        { st with debounced := none, candidate := none, count := 0, settled := none, run := none }
    ∧ (st.debounced = none → (b.readInput period i v false time st).after =
        { st with debounced := some v, stamp := time, candidate := none, count := 0, settled := some v.settled, run := none })
    ∧ (st.debounced = some v → (b.readInput period i v false time st).after = { st with candidate := none, count := 0 })
    ∧ ∀ d, st.debounced = some d → d ≠ v → ∀ (c : Nat) (first : Stamp),
        ((st.candidate = none ∧ c = 1 ∧ first = time) ∨ (st.candidate = some v ∧ c = st.count + 1 ∧ first = st.firstSeen)) →
        (c < b.debounceCount (b.memory.mapEntry i) v →
          (b.readInput period i v false time st).after = { st with candidate := some v, count := c, firstSeen := first })
        ∧ (b.debounceCount (b.memory.mapEntry i) v ≤ c →
          (b.readInput period i v false time st).after =
            { st with
              debounced := some v, stamp := first, candidate := none, count := 0, firstSeen := first, settled := some v.settled }
          ∧ (b.readInput period i v false time st).stamp = first ∧ (b.readInput period i v false time st).cause = .input i))
  ∧ (∀ (b : Bank) (period i : Nat) (v : ContactValue) (time : Stamp) (st : InputState) (n readPeriod : Nat),
    b.memory.flashClassified i = true → n = b.debounceCount (b.memory.mapEntry i) v →
    readPeriod = b.memory.readPeriod (b.memory.mapEntry i).position →
    (b.readInput period i v true time st).after =
        { st with debounced := none, candidate := none, count := 0, settled := none, run := none }
    ∧ (st.debounced = none → ∃ run, (b.readInput period i v false time st).after =
          { st with debounced := some v, stamp := time, candidate := none, count := 0, settled := some v.settled, run := some run }
        ∧ run.start = time ∧ run.length = 1 ∧ run.outlasted = false ∧ run.openStart = true ∧ run.qualifying = 0)
    ∧ ∀ d, st.debounced = some d → ∀ counted : InputState, counted = (st.debounce n v time).1.countRun →
        ((st.debounce n v time).2 = false →
          (b.readInput period i v false time st).after = (counted.testOutlast period readPeriod).1)
        ∧ ((st.debounce n v time).2 = true →
          (b.readInput period i v false time st).after = ((counted.endRun period readPeriod n).1.testOutlast period readPeriod).1)
        ∧ ((st.debounce n v time).2 = true ↔ d ≠ v ∧ n ≤ if st.candidate = none then 1 else st.count + 1))
  ∧ (∀ (st : InputState) (r : RunData), st.run = some r →
      st.countRun = { st with run := some (if r.outlasted then r else { r with length := r.length + 1 }) })
  ∧ (∀ (st : InputState) (r : RunData) (period readPeriod n : Nat) (s : Settled), st.run = some r → st.settled = some s →
      (s = .flashing → st.endRun period readPeriod n =
        ({ st with
            run := some { r with start := st.stamp, length := n, outlasted := false, openStart := false } }, none))
      ∧ (s ≠ .flashing → ∀ (h : Nat) (flashStart : Stamp) (after : RunData),
          (r.openStart = false → r.outlasted = false → 3 * period ≤ 8 * ((r.length - n) * readPeriod) →
            8 * ((r.length - n) * readPeriod) ≤ 5 * period →
            h = r.qualifying + 1 ∧ flashStart = if r.qualifying = 0 then r.start else r.flashStart) →
          ((r.openStart = true ∨ r.outlasted = true ∨ 8 * ((r.length - n) * readPeriod) < 3 * period
              ∨ 5 * period < 8 * ((r.length - n) * readPeriod)) → h = 0 ∧ flashStart = r.flashStart) →
          after = { start := st.stamp, length := n, outlasted := false, openStart := false, qualifying := h, flashStart := flashStart } →
          (h < 2 → st.endRun period readPeriod n = ({ st with run := some after }, none))
          ∧ (2 ≤ h → st.endRun period readPeriod n = ({ st with settled := some .flashing, run := some after }, some flashStart))))
  ∧ (∀ (st : InputState) (r : RunData) (d : ContactValue) (period readPeriod : Nat), st.run = some r → st.debounced = some d →
      (r.outlasted = false → 5 * period < 8 * ((r.length - st.count) * readPeriod) → st.testOutlast period readPeriod =
        ({ st with settled := some d.settled, run := some { r with outlasted := true, qualifying := 0 } }, some r.start))
      ∧ ((r.outlasted = true ∨ 8 * ((r.length - st.count) * readPeriod) ≤ 5 * period) →
          st.testOutlast period readPeriod = (st, none)))
  ∧ ∀ (c : ContactFilter) (m : Memory) (i : Nat) (st : InputState), m.flashClassified i = true → keyedGet i c.inputs = some st →
      keyedGet i (c.release m i).inputs = some
        { st with settled := st.debounced.map ContactValue.settled, run := st.run.map fun r => { r with qualifying := 0 } }

/-- MEASUREMENT_COMPLETE at eight cycles: the measured period is the rounded mean cycle; in band it becomes the period in use, out of
band FAULT is set (R62); FLASHER_OK is judged again (R67). That it is an event of its own on a state whose cycle count stands at 8 is
the model's choice (log entry 3). Within a report, the monitor follows the reference's underlying state (R61): at UNKNOWN w is absent
and a measurement is abandoned (R66); at a resume w is 1; at a read w rises by 1 unless STOPPED is set; and an OPEN to CLOSED transition
takes the cycle step, which counts a cycle of an anchored measurement in progress, anchors w at the closing debounce count, clears
STOPPED, and at eight cycles completes the measurement (R62). The STOPPED test follows (R65). -/
def Obligations.MeasurementJudgesThePeriod : Prop :=
  (∀ (s : State) (b : Bank) (i : Nat) (e : MapEntry) (time : Stamp), s.active? = some b → b.memory.referenceEntry? = some (i, e) →
    8 ≤ s.flasher.cycles → ∃ t, exec (.measurementComplete time) s = .next t
    ∧ (∀ measured, measured = (s.flasher.readSum * b.memory.readPeriod e.position + 4) / 8 →
        t.flasher.lastMeasured = some measured
        ∧ (3 * b.counts.nominal ≤ 4 * measured ∧ 4 * measured ≤ 5 * b.counts.nominal →
            t.flasher.period = some measured ∧ t.flasher.fault = false)
        ∧ (¬(3 * b.counts.nominal ≤ 4 * measured ∧ 4 * measured ≤ 5 * b.counts.nominal) →
            t.flasher.period = s.flasher.period ∧ t.flasher.fault = true))
    ∧ t.flasher.cycles = 0 ∧ t.flasher.readSum = 0 ∧ (b.memory.flasherMode = .oneShot → t.flasher.measuring = false)
    ∧ t.flasher.sinceRise = s.flasher.sinceRise ∧ t.flasher.anchored = s.flasher.anchored ∧ t.flasher.stopped = s.flasher.stopped
    ∧ t.evaluator.conditions.flasherOk = t.flasherOk
    ∧ { t with flasher := s.flasher, evaluator := s.evaluator, report := s.report } = s)
  ∧ ∀ (f : FlasherMonitor) (mode : FlasherMode) (nominal readPeriod n : Nat) (before after : InputState) (t counted : FlasherMonitor),
    t = f.takeRead mode nominal readPeriod n before after →
    counted = { f with sinceRise := if f.stopped then f.sinceRise else f.sinceRise.map (· + 1) } →
    (before.debounced = none → after.debounced = none → t = f)
    ∧ (before.debounced = none → after.debounced ≠ none →
        t = ({ f with sinceRise := some 1, anchored := false }).testStopped mode readPeriod)
    ∧ (before.debounced ≠ none → after.debounced = none →
        (mode = .auto → t = { f with sinceRise := none, anchored := false, cycles := 0, readSum := 0 })
        ∧ (mode = .oneShot → f.measuring = true → t =
            { f with sinceRise := none, anchored := false, cycles := 0, readSum := 0, measuring := false, abandoned := true })
        ∧ ((mode = .manual ∨ mode = .oneShot ∧ f.measuring = false) → t = { f with sinceRise := none, anchored := false }))
    ∧ (before.debounced = some .opened → after.debounced = some .closed →
        t = (counted.cycleStep mode nominal readPeriod n).testStopped mode readPeriod)
    ∧ (before.debounced ≠ none → after.debounced ≠ none → ¬(before.debounced = some .opened ∧ after.debounced = some .closed) →
        t = counted.testStopped mode readPeriod)
    ∧ (∀ (w : Nat) (c : FlasherMonitor), c = f.countCycle mode n → f.sinceRise = some w →
        (f.anchored = true → (mode = .auto ∨ mode = .oneShot ∧ f.measuring = true) → c =
          { f with readSum := f.readSum + (w - n), cycles := f.cycles + 1, sinceRise := some n, anchored := true, stopped := false })
        ∧ ((f.anchored = false ∨ mode = .manual ∨ mode = .oneShot ∧ f.measuring = false) →
          c = { f with sinceRise := some n, anchored := true, stopped := false })
        ∧ (c.cycles < 8 → f.cycleStep mode nominal readPeriod n = c)
        ∧ (8 ≤ c.cycles → f.cycleStep mode nominal readPeriod n = c.complete mode nominal readPeriod))

/-- FLASHER_STOPPED: with w held, STOPPED clear and w·T_r past 2·P, STOPPED is set and a measurement in progress is abandoned (R65,
R66); FLASHER_OK is 0 (R67). That it is an event of its own on a state where the test of R65 holds is the model's choice (log
entry 3). -/
def Obligations.StoppedFlasherAbandonsMeasurement : Prop :=
  ∀ (s : State) (b : Bank) (i : Nat) (e : MapEntry) (w p : Nat) (time : Stamp), s.active? = some b →
    b.memory.referenceEntry? = some (i, e) → s.flasher.sinceRise = some w → s.flasher.period = some p → s.flasher.stopped = false →
    2 * p < w * b.memory.readPeriod e.position → ∃ t, exec (.flasherStopped time) s = .next t
    ∧ t.flasher.stopped = true ∧ t.flasher.period = some p ∧ t.flasher.fault = s.flasher.fault
    ∧ t.flasher.lastMeasured = s.flasher.lastMeasured
    ∧ (b.memory.flasherMode = .auto → t.flasher.cycles = 0 ∧ t.flasher.readSum = 0 ∧ t.flasher.anchored = false)
    ∧ (b.memory.flasherMode = .oneShot → s.flasher.measuring = true →
        t.flasher.measuring = false ∧ t.flasher.abandoned = true ∧ t.flasher.cycles = 0 ∧ t.flasher.readSum = 0)
    ∧ (b.memory.flasherMode = .manual → t.flasher = { s.flasher with stopped := true })
    ∧ t.evaluator.conditions.flasherOk = false
    ∧ { t with flasher := s.flasher, evaluator := s.evaluator, report := s.report } = s

/-- TRANSIT_COUNT_OUT: a pair whose transit counter has reached its count goes to OPEN_FAULT with quality FAULT, stamped with the sweep
time (R72, R76, R77); the changeover pair takes authority with it (R80). No other pair changes. That it is an event of its own on a
counter that stands at its count is the model's choice (log entry 3). Within a batch, a pair follows the table of R71 with the quality
of R76, and a pair that stands in TRANSIT counts each read of its position, to OPEN_FAULT at its count (R72). -/
def Obligations.TransitCountOutIsOpenFault : Prop :=
  (∀ (s : State) (b : Bank) (f : Nat) (r : PairRecord) (time : Stamp), s.active? = some b → keyedGet f s.pairs = some r →
    r.state = .transit → b.transitCount (b.memory.mapEntry f) ≤ r.transit → ∃ t, exec (.transitCountOut f time) s = .next t
    ∧ (∀ j, keyedGet j t.pairs =
        if j = f then some { state := .openFault, transit := 0, stamp := time, quality := .fault } else keyedGet j s.pairs)
    ∧ (f = b.memory.changeover → t.request.authority = false ∧ t.request.changeover = some (.openFault, .fault))
    ∧ { t with pairs := s.pairs, evaluator := s.evaluator, report := s.report, request := s.request } = s)
  ∧ (∀ (r : PairRecord) (f nt : Nat) (front back : Option Settled × Quality) (ns : List InputNotice) (u : PairRecord), ns ≠ [] →
    u = (r.evaluate f nt front back ns).1 →
    ((front.2 = .unknown ∨ back.2 = .unknown) → u.state = .unknown ∧ u.quality = .unknown ∧ u.transit = 0)
    ∧ (front.2 ≠ .unknown → back.2 ≠ .unknown → ∀ q, q = (if front.2 = .forced ∨ back.2 = .forced then Quality.forced else .good) →
        (front.1 = some .closed → back.1 = some .opened → u.state = .up ∧ u.quality = q ∧ u.transit = 0)
        ∧ (front.1 = some .opened → back.1 = some .closed → u.state = .down ∧ u.quality = q ∧ u.transit = 0)
        ∧ (front.1 = some .closed → back.1 = some .closed → u.state = .closedFault ∧ u.quality = .fault ∧ u.transit = 0)
        ∧ (front.1 = some .opened → back.1 = some .opened →
            (r.state = .transit → u.state = .transit ∧ u.quality = q ∧ u.transit = r.transit)
            ∧ (r.state = .openFault ∨ r.state = .closedFault → u.state = r.state ∧ u.quality = .fault)
            ∧ (r.state = .up ∨ r.state = .down ∨ r.state = .unknown →
                (nt = 0 → u.state = .openFault ∧ u.quality = .fault) ∧ (nt ≠ 0 → u.state = .transit ∧ u.quality = q ∧ u.transit = 0)))))
  ∧ ∀ (r : PairRecord) (b : Bank) (c : ContactFilter) (f p : Nat) (time : Stamp),
    (r.takeBatch b c f [] (some (p, time))).1 =
      if (b.memory.mapEntry f).position = p ∧ r.state = .transit then
        if b.transitCount (b.memory.mapEntry f) ≤ r.transit + 1
        then { state := .openFault, transit := 0, stamp := time, quality := .fault } else { r with transit := r.transit + 1 }
      else r

/-- FORCE_INPUT that passes its checks: the input stands in the forced list at its value and presents it with quality FORCED, its
underlying state runs on, and the reply is OK (R47, R48, R50). Refused, in the order of R48: NO_ACTIVE, BAD_INDEX past 2047 or at an
input that is not mapped, LIST_FULL for a further input at 32 entries; nothing else changes. -/
def Obligations.ForcePresentsItsValue : Prop :=
  (∀ (s : State) (b : Bank) (x : RxMessage) (rest : List RxMessage) (hi lo v : Byte) (i : Nat) (st : InputState),
    s.offers x rest 0x21 → s.rightsOf x.source = .maintain → s.checking = false → s.active? = some b → x.content = [hi, lo, v] →
    v.toNat < 2 → i = 256 * hi.toNat + lo.toNat → i < 2048 → (b.memory.mapEntry i).role ≠ .unused →
    keyedGet i s.filter.inputs = some st → (i ∈ s.filter.forced.map Prod.fst ∨ s.filter.forced.length < 32) →
    ∃ t, exec .forceInput s = .next t
    ∧ t.filter.presented i = (some (if v = 1 then .closed else .opened), .forced)
    ∧ (i, if v = 1 then ContactValue.closed else ContactValue.opened) ∈ t.filter.forced
    ∧ (∀ j, j ≠ i → t.filter.presented j = s.filter.presented j) ∧ t.filter.inputs = s.filter.inputs
    ∧ t.filter.forced.length = s.filter.forced.length + (if i ∈ s.filter.forced.map Prod.fst then 0 else 1)
    ∧ t.desk = ((s.afterTaking rest).repliedTo x 0x21 .ok []).desk
    ∧ t.loop = s.loop ∧ t.flasher = s.flasher ∧ t.tables = s.tables ∧ t.clock = s.clock ∧ t.pending = s.pending)
  ∧ ∀ (s : State) (x : RxMessage) (rest : List RxMessage) (hi lo v : Byte) (i : Nat),
    s.offers x rest 0x21 → s.rightsOf x.source = .maintain → s.checking = false → x.content = [hi, lo, v] →
    v.toNat < 2 → i = 256 * hi.toNat + lo.toNat →
    (s.active? = none → exec .forceInput s = .next ((s.afterTaking rest).repliedTo x 0x21 .noActive []))
    ∧ ∀ b, s.active? = some b →
      ((2048 ≤ i ∨ (b.memory.mapEntry i).role = .unused) →
        exec .forceInput s = .next ((s.afterTaking rest).repliedTo x 0x21 .badIndex []))
      ∧ (i < 2048 → (b.memory.mapEntry i).role ≠ .unused → i ∉ s.filter.forced.map Prod.fst → 32 ≤ s.filter.forced.length →
        exec .forceInput s = .next ((s.afterTaking rest).repliedTo x 0x21 .listFull []))

/-- RELEASE_INPUT of a forced input: it leaves the list and presents its underlying state, steady where it is flash-classified (R49,
R60). Refused, in the order of R49: NO_ACTIVE, BAD_INDEX past 2047, NOT_FORCED; nothing else changes. -/
def Obligations.ReleasePresentsUnderlyingState : Prop :=
  (∀ (s : State) (b : Bank) (x : RxMessage) (rest : List RxMessage) (hi lo : Byte) (i : Nat) (st : InputState),
    s.offers x rest 0x22 → s.rightsOf x.source = .maintain → s.checking = false → s.active? = some b → x.content = [hi, lo] →
    i = 256 * hi.toNat + lo.toNat → i < 2048 → keyedGet i s.filter.inputs = some st →
    (i ∉ s.filter.forced.map Prod.fst → exec .releaseInput s = .next ((s.afterTaking rest).repliedTo x 0x22 .notForced []))
    ∧ (i ∈ s.filter.forced.map Prod.fst → ∃ t, exec .releaseInput s = .next t
      ∧ t.filter.forced = s.filter.forced.filter (fun y => decide (y.1 ≠ i))
      ∧ t.filter.presented i =
          (if b.memory.flashClassified i then st.debounced.map ContactValue.settled else st.settled,
            if st.debounced.isSome then .good else .unknown)
      ∧ t.desk = ((s.afterTaking rest).repliedTo x 0x22 .ok []).desk
      ∧ t.loop = s.loop ∧ t.flasher = s.flasher ∧ t.tables = s.tables ∧ t.clock = s.clock ∧ t.pending = s.pending))
  ∧ ∀ (s : State) (x : RxMessage) (rest : List RxMessage) (hi lo : Byte),
    s.offers x rest 0x22 → s.rightsOf x.source = .maintain → s.checking = false → x.content = [hi, lo] →
    (s.active? = none → exec .releaseInput s = .next ((s.afterTaking rest).repliedTo x 0x22 .noActive []))
    ∧ (s.active? ≠ none → 2048 ≤ 256 * hi.toNat + lo.toNat →
      exec .releaseInput s = .next ((s.afterTaking rest).repliedTo x 0x22 .badIndex []))

/-- MEASURE_FLASHER: refused with no bank active, in AUTO and MANUAL, and while measuring; otherwise OK, and the measurement begins, or
is abandoned at once where the reference is UNKNOWN or STOPPED is set (R63, R66). -/
def Obligations.MeasureFlasherBegins : Prop :=
  (∀ (s : State) (b : Bank) (x : RxMessage) (rest : List RxMessage),
    s.offers x rest 0x25 → s.rightsOf x.source = .maintain → s.checking = false → s.active? = some b → x.content = [] →
    (b.memory.flasherMode ≠ .oneShot → exec .measureFlasher s = .next ((s.afterTaking rest).repliedTo x 0x25 .wrongMode []))
    ∧ (b.memory.flasherMode = .oneShot → s.flasher.measuring = true →
        exec .measureFlasher s = .next ((s.afterTaking rest).repliedTo x 0x25 .busy []))
    ∧ (b.memory.flasherMode = .oneShot → s.flasher.measuring = false → ∃ t, exec .measureFlasher s = .next t
        ∧ t.flasher = (if s.referenceUnknown b ∨ s.flasher.stopped = true then
            { s.flasher with measuring := false, abandoned := true, cycles := 0, readSum := 0, anchored := false }
          else { s.flasher with measuring := true, abandoned := false, cycles := 0, readSum := 0, anchored := false })
        ∧ { t with flasher := s.flasher } = (s.afterTaking rest).repliedTo x 0x25 .ok []))
  ∧ ∀ (s : State) (x : RxMessage) (rest : List RxMessage),
    s.offers x rest 0x25 → s.rightsOf x.source = .maintain → s.checking = false → x.content = [] → s.active? = none →
    exec .measureFlasher s = .next ((s.afterTaking rest).repliedTo x 0x25 .noActive [])

/-! ### Operator requests -/

/-- STEP_TIMING: every occupied slot's steps follow its sweep count, a WAITING step turning ON at its start delay and an ON step DONE at
its end (R129). The slot goes on RUNNING, waits PROVING, or ends DONE or NOT_PROVED with its record, by the table of R130. Nothing else
changes. That this is an event of its own, without a sweep sent, is the model's choice (log entry 3). -/
def Obligations.StepTimingUpdatesSlots : Prop :=
  ∀ (s : State) (b : Bank), s.active? = some b → ∃ t, exec .stepTiming s = .next t
    ∧ (∀ c d h : Nat, stepAfter c (d, h) .waiting = (if c = d then .on else .waiting)
        ∧ stepAfter c (d, h) .on = (if c = d + h then .done else .on) ∧ stepAfter c (d, h) .done = .done)
    ∧ s.slotsFollow t b (fun sl => { sl with steps := List.zipWith (stepAfter sl.count) (b.pointCounts sl.point).steps sl.steps })
    ∧ { t with request := { t.request with slots := s.request.slots, outcomes := s.request.outcomes } } = s

/-- PROOF_TIME_EXPIRY: a slot whose steps are all DONE and whose sweep count has reached its point's proof count ends NOT_PROVED, in slot
order; every other slot stays as it was (R125, R130). That it is an event of its own on such a slot is the model's choice (log
entry 3). A change notice that the request engine takes ends a RUNNING or PROVING slot PROVED, with the notice's stamp, where the slot's
point names the notice's source as its proof and the notice shows the proof value with quality GOOD; the slot is freed, so that it
commands nothing more, and the proof sources follow the notice (R123, R131). -/
def Obligations.ProofTimeEndsNotProved : Prop :=
  (∀ (s : State) (b : Bank), s.active? = some b → ∃ t, exec .proofTimeExpiry s = .next t
    ∧ (∀ (k : Nat) (sl : Slot) (p : Nat), s.request.slots[k]? = some (some sl) → (b.pointCounts sl.point).proof = some p →
        sl.allDone = true →
        (p ≤ sl.count → t.request.slots[k]? = some none
          ∧ { tag := sl.tag, point := some sl.point, result := .notProved, stamp := s.report.timeBase, reasons := none }
              ∈ t.request.outcomes)
        ∧ (sl.count < p → t.request.slots[k]? = some (some sl)))
    ∧ (∀ (k : Nat) (sl : Slot), s.request.slots[k]? = some (some sl) →
        (sl.allDone = false ∨ (b.pointCounts sl.point).proof = none) → t.request.slots[k]? = some (some sl))
    ∧ (∀ k : Nat, s.request.slots[k]? = some none → t.request.slots[k]? = some none)
    ∧ t.request.outcomes = s.request.outcomes ++ (s.request.occupied.filter (fun sl =>
          sl.allDone && (b.pointCounts sl.point).proof.any fun p => decide (p ≤ sl.count))).map (fun sl =>
        { tag := sl.tag, point := some sl.point, result := .notProved, stamp := s.report.timeBase, reasons := none })
    ∧ { t with request := { t.request with slots := s.request.slots, outcomes := s.request.outcomes } } = s)
  ∧ ∀ (s : State) (b : Bank) (src : Source) (value : Option Nat) (quality : Quality) (stamp : Stamp) (met : Slot → Prop) (t : State),
    s.active? = some b → t = s.takeProofNotice src value quality stamp →
    (∀ sl, met sl ↔ b.memory.proofSource? sl.point = some src ∧ value = some (b.memory.proofValue sl.point) ∧ quality = .good) →
    (∀ k : Nat, s.request.slots[k]? = some none → t.request.slots[k]? = some none)
    ∧ (∀ (k : Nat) (sl : Slot), s.request.slots[k]? = some (some sl) →
        (met sl → t.request.slots[k]? = some none
          ∧ { tag := sl.tag, point := some sl.point, result := .proved, stamp := stamp, reasons := none } ∈ t.request.outcomes)
        ∧ (¬met sl → t.request.slots[k]? = some (some sl)))
    ∧ (∃ ended : List Slot, ended.Sublist s.request.occupied ∧ (∀ sl ∈ s.request.occupied, sl ∈ ended ↔ met sl)
        ∧ t.request.outcomes = s.request.outcomes ++ ended.map fun sl =>
          { tag := sl.tag, point := some sl.point, result := .proved, stamp := stamp, reasons := none })
    ∧ (∀ o, o ∈ t.commandedOn ↔ ∃ sl ∈ s.request.occupied, ¬met sl ∧ ∃ k : Nat,
        (b.memory.pointOutputs sl.point)[k]? = some o ∧ sl.steps[k]? = some .on)
    ∧ t.request.proofs = s.request.proofs.map (fun ps => if ps.source = src then ⟨src, value, quality⟩ else ps)
    ∧ { t.request with slots := s.request.slots, outcomes := s.request.outcomes, proofs := s.request.proofs } = s.request
    ∧ { t with request := s.request } = s

/-- WATCHDOG_EXPIRY with a matching keepalive held and the watchdog time passed since it: the watchdog is expired and authority does not
hold; where it held, every occupied slot ends ABORTED_AUTHORITY in slot order, with the reason set (R119, R121, R125). With the time not
passed, as after a matching keepalive taken first, the watchdog does not expire (R119, R136). -/
def Obligations.WatchdogEndsAuthority : Prop :=
  ∀ (s : State) (b : Bank) (a : Nat), s.active? = some b → s.request.lastKeepalive = some a →
    (b.counts.watchdog ≤ s.clock.own - a → ∃ t, exec .watchdogExpiry s = .next t
      ∧ t.request.expired = true ∧ t.request.lastKeepalive = some a ∧ t.request.authority = false
      ∧ t.request.reasons = t.reasonSet ∧ t.request.reasons.keepaliveMissing = true
      ∧ (s.request.authority = true → t.request.occupied = []
          ∧ t.request.outcomes = s.request.outcomes ++ s.request.occupied.map (fun sl =>
              { tag := sl.tag, point := some sl.point, result := .abortedAuthority, stamp := s.report.timeBase,
                reasons := some t.request.reasons }))
      ∧ { t with evaluator := s.evaluator, report := s.report, request := s.request } = s)
    ∧ (s.clock.own - a < b.counts.watchdog → exec .watchdogExpiry s = .next s)

/-- KEEPALIVE from the CONTROL station: one that carries the active bank's table issue renews the watchdog and clears the mismatch flag,
another sets that flag and leaves the watchdog; authority is judged again (R118, R119). -/
def Obligations.KeepaliveMatchesTheIssue : Prop :=
  ∀ (s : State) (b : Bank) (x : RxMessage) (rest : List RxMessage) (issue : List Byte), s.offers x rest 0x40 → s.active? = some b →
    s.rightsOf x.source = .control → issue.length ≤ 60 → x.content = BitVec.ofNat 8 issue.length :: issue →
    ∃ t, exec .keepalive s = .next t
    ∧ (b.memory.issueValue? keywordTI = some issue →
        t.request.lastKeepalive = some s.clock.own ∧ t.request.expired = false ∧ t.request.mismatch = false)
    ∧ (b.memory.issueValue? keywordTI ≠ some issue →
        t.request.lastKeepalive = s.request.lastKeepalive ∧ t.request.expired = s.request.expired ∧ t.request.mismatch = true
        ∧ t.request.authority = false)
    ∧ t.request.reasons = t.reasonSet ∧ t.request.authority = t.reasonSet.isEmpty
    ∧ { t with evaluator := s.evaluator, report := s.report, request := s.request } = s.afterTaking rest

/-- OPERATE that passes every check: the lowest-numbered free slot is occupied, steps of start delay 0 ON; with its proof met already,
the request ends PROVED in the same event and its slot stays free (R126, R127). -/
def Obligations.OperateAccepted : Prop :=
  ∀ (s : State) (b : Bank) (x : RxMessage) (rest : List RxMessage) (q : Byte), s.offers x rest 0x41 → s.active? = some b →
    s.rightsOf x.source = .control → x.content = [q] → s.request.outcomes.length + s.request.occupied.length < 16 →
    s.request.authority = true → 1 ≤ b.memory.stepCount q.toNat → b.memory.stepCount q.toNat ≤ 3 →
    (∀ sl ∈ s.request.occupied, sl.tag ≠ x.taken.tag) → (∀ o ∈ b.memory.pointOutputs q.toNat, o ∉ s.request.blocked) →
    (∀ sl ∈ s.request.occupied, ∀ o ∈ b.memory.pointOutputs sl.point, o ∉ b.memory.pointOutputs q.toNat) →
    (∃ k : Nat, s.request.slots[k]? = some none) → ∃ t, exec .operate s = .next t
    ∧ (s.proofStands b.memory q.toNat = false → t.request.outcomes = s.request.outcomes
        ∧ ∃ k : Nat, s.request.slots[k]? = some none ∧ (∀ j, j < k → s.request.slots[j]? ≠ some none)
          ∧ t.request.slots = s.request.slots.set k (some
              { tag := x.taken.tag, point := q.toNat, state := .running, accepted := s.report.timeBase, count := 0,
                steps := (b.pointCounts q.toNat).steps.map fun dh => if dh.1 = 0 then .on else .waiting }))
    ∧ (s.proofStands b.memory q.toNat = true → t.request.slots = s.request.slots
        ∧ t.request.outcomes = s.request.outcomes ++
            [{ tag := x.taken.tag, point := some q.toNat, result := .proved, stamp := s.report.timeBase, reasons := none }])
    ∧ { t with request := { t.request with slots := s.request.slots, outcomes := s.request.outcomes } } = s.afterTaking rest

/-- OPERATE that fails a check places one outcome with the first result that fails, and changes nothing else; with no free place it is
discarded whole and counted (R124, R126). -/
def Obligations.OperateRefused : Prop :=
  ∀ (s : State) (b : Bank) (x : RxMessage) (rest : List RxMessage) (q : Byte), s.offers x rest 0x41 → s.active? = some b →
    s.rightsOf x.source = .control → x.content = [q] →
    (16 ≤ s.request.outcomes.length + s.request.occupied.length → exec .operate s = .next
      { s.afterTaking rest with request := { s.request with discarded := s.request.discarded + 1 } })
    ∧ ∀ result, s.request.outcomes.length + s.request.occupied.length < 16 →
      ((s.request.authority = false ∧ result = .notAuthorised)
        ∨ (s.request.authority = true ∧ ¬(1 ≤ b.memory.stepCount q.toNat ∧ b.memory.stepCount q.toNat ≤ 3) ∧ result = .undefinedPoint)
        ∨ (s.request.authority = true ∧ (1 ≤ b.memory.stepCount q.toNat ∧ b.memory.stepCount q.toNat ≤ 3)
            ∧ (∃ sl ∈ s.request.occupied, sl.tag = x.taken.tag) ∧ result = .duplicateTag)
        ∨ (s.request.authority = true ∧ (1 ≤ b.memory.stepCount q.toNat ∧ b.memory.stepCount q.toNat ≤ 3)
            ∧ (∀ sl ∈ s.request.occupied, sl.tag ≠ x.taken.tag) ∧ (∃ o ∈ b.memory.pointOutputs q.toNat, o ∈ s.request.blocked)
            ∧ result = .outputBlocked)
        ∨ (s.request.authority = true ∧ (1 ≤ b.memory.stepCount q.toNat ∧ b.memory.stepCount q.toNat ≤ 3)
            ∧ (∀ sl ∈ s.request.occupied, sl.tag ≠ x.taken.tag) ∧ (∀ o ∈ b.memory.pointOutputs q.toNat, o ∉ s.request.blocked)
            ∧ (∃ sl ∈ s.request.occupied, ∃ o ∈ b.memory.pointOutputs sl.point, o ∈ b.memory.pointOutputs q.toNat)
            ∧ result = .outputBusy)
        ∨ (s.request.authority = true ∧ (1 ≤ b.memory.stepCount q.toNat ∧ b.memory.stepCount q.toNat ≤ 3)
            ∧ (∀ sl ∈ s.request.occupied, sl.tag ≠ x.taken.tag) ∧ (∀ o ∈ b.memory.pointOutputs q.toNat, o ∉ s.request.blocked)
            ∧ (∀ sl ∈ s.request.occupied, ∀ o ∈ b.memory.pointOutputs sl.point, o ∉ b.memory.pointOutputs q.toNat)
            ∧ (∀ k : Nat, s.request.slots[k]? ≠ some none) ∧ result = .noSlot)) →
      exec .operate s = .next
        { s.afterTaking rest with
          request := { s.request with
            outcomes := s.request.outcomes ++
              [{ tag := x.taken.tag, point := some q.toNat, result := result, stamp := s.report.timeBase,
                 reasons := if result = .notAuthorised then some s.request.reasons else none }] } }

/-- CANCEL: a request under the named tag ends CANCELLED; with none, NO_SUCH_REQUEST is placed, or the message is discarded and counted
where there is no free place (R124, R125, R132). -/
def Obligations.CancelEndsTheRequest : Prop :=
  ∀ (s : State) (x : RxMessage) (rest : List RxMessage) (hi lo : Byte) (tag : Word16), s.offers x rest 0x42 →
    s.rightsOf x.source = .control → x.content = [hi, lo] → tag = BitVec.ofNat 16 (256 * hi.toNat + lo.toNat) →
    ((∃ sl ∈ s.request.occupied, sl.tag = tag) → ∃ t, exec .cancel s = .next t
      ∧ t.request.occupied = s.request.occupied.filter (fun sl => decide (sl.tag ≠ tag))
      ∧ t.request.outcomes = s.request.outcomes ++ (s.request.occupied.filter (fun sl => decide (sl.tag = tag))).map (fun sl =>
          { tag := tag, point := some sl.point, result := .cancelled, stamp := s.report.timeBase, reasons := none })
      ∧ { t with request := { t.request with slots := s.request.slots, outcomes := s.request.outcomes } } = s.afterTaking rest)
    ∧ ((∀ sl ∈ s.request.occupied, sl.tag ≠ tag) → exec .cancel s = .next
        (if s.request.outcomes.length + s.request.occupied.length < 16 then
          { s.afterTaking rest with
            request := { s.request with
              outcomes := s.request.outcomes ++
                [{ tag := tag, point := none, result := .noSuchRequest, stamp := s.report.timeBase, reasons := none }] } }
        else { s.afterTaking rest with request := { s.request with discarded := s.request.discarded + 1 } }))

/-- CLEAR_OUTPUT_BLOCK: an output of the blocked-output set leaves it and OUTPUTS_HEALTHY is judged again; refusals in their order
(R135). That its grace count is set to 0, whatever it stood at, is the model's reading (log entry 18). An output joins the set by the
readback of an accepted report (R134): while its grace stands, the grace falls by 1 and nothing is compared; at grace 0 a readback that
differs from the carried state blocks it. A report checks the 16 outputs of its card, and every slot whose point names an output that
joins ends ABORTED_OUTPUT_FAULT, stamped with the sweep time; OUTPUTS_HEALTHY follows. -/
def Obligations.ClearOutputBlockUnblocks : Prop :=
  (∀ (s : State) (x : RxMessage) (rest : List RxMessage) (p o : Byte), s.offers x rest 0x26 → s.rightsOf x.source = .maintain →
    s.checking = false → x.content = [p, o] →
    (s.active? = none → exec .clearOutputBlock s = .next ((s.afterTaking rest).repliedTo x 0x26 .noActive []))
    ∧ (s.active? ≠ none → (32 ≤ p.toNat ∨ 16 ≤ o.toNat) →
        exec .clearOutputBlock s = .next ((s.afterTaking rest).repliedTo x 0x26 .badIndex []))
    ∧ (s.active? ≠ none → p.toNat < 32 → o.toNat < 16 → 16 * p.toNat + o.toNat ∉ s.request.blocked →
        exec .clearOutputBlock s = .next ((s.afterTaking rest).repliedTo x 0x26 .notBlocked []))
    ∧ (s.active? ≠ none → p.toNat < 32 → o.toNat < 16 → 16 * p.toNat + o.toNat ∈ s.request.blocked →
        ∃ t, exec .clearOutputBlock s = .next t
        ∧ (∀ k, k ∈ t.request.blocked ↔ k ∈ s.request.blocked ∧ k ≠ 16 * p.toNat + o.toNat)
        ∧ (t.request.carriedOf (16 * p.toNat + o.toNat)).grace = 0
        ∧ t.evaluator.conditions.outputsHealthy = t.request.blocked.isEmpty
        ∧ t.desk = ((s.afterTaking rest).repliedTo x 0x26 .ok []).desk
        ∧ { t.request with blocked := s.request.blocked, carried := s.request.carried } = s.request
        ∧ { t with desk := s.desk, evaluator := s.evaluator, report := s.report, request := s.request } = s))
  ∧ (∀ (r : RequestEngine) (key : Nat) (readback : Bool) (u : RequestEngine), u = r.checkOutput key readback →
    (∀ k, k ≠ key → u.carriedOf k = r.carriedOf k)
    ∧ (0 < (r.carriedOf key).grace → u.carriedOf key = { r.carriedOf key with grace := (r.carriedOf key).grace - 1 }
        ∧ u.blocked = r.blocked)
    ∧ ((r.carriedOf key).grace = 0 → u.carried = r.carried
        ∧ ∀ k, k ∈ u.blocked ↔ k ∈ r.blocked ∨ (k = key ∧ (r.carriedOf key).state = some (!readback)))
    ∧ { u with blocked := r.blocked, carried := r.carried } = r)
  ∧ (∀ (r : RequestEngine) (p values : Nat) (u : RequestEngine), u = r.checkCard p values →
    (∀ j, j < 16 → u.carriedOf (outputKey p j) = (r.checkOutput (outputKey p j) (values.testBit j)).carriedOf (outputKey p j))
    ∧ (∀ k, (∀ j, j < 16 → k ≠ outputKey p j) → u.carriedOf k = r.carriedOf k)
    ∧ (∀ k, k ∈ u.blocked ↔ k ∈ r.blocked
        ∨ ∃ j, j < 16 ∧ k = outputKey p j ∧ k ∈ (r.checkOutput (outputKey p j) (values.testBit j)).blocked)
    ∧ { u with blocked := r.blocked, carried := r.carried } = r)
  ∧ ∀ (e : Event) (m : Memory) (p values : Nat) (sweepTime : Stamp) (card : RequestEngine) (t : State),
    card = e.st.request.checkCard p values → t = (e.checkReadbacks m p values sweepTime).st →
    t.request.blocked = card.blocked ∧ t.request.carried = card.carried
    ∧ t.request.occupied = e.st.request.occupied.filter (fun sl =>
        !(m.pointOutputs sl.point).any fun o => decide (o ∈ card.blocked ∧ o ∉ e.st.request.blocked))
    ∧ t.request.outcomes = e.st.request.outcomes ++ (e.st.request.occupied.filter (fun sl =>
          (m.pointOutputs sl.point).any fun o => decide (o ∈ card.blocked ∧ o ∉ e.st.request.blocked))).map (fun sl =>
        { tag := sl.tag, point := some sl.point, result := .abortedOutputFault, stamp := sweepTime, reasons := none })
    ∧ t.evaluator.conditions.outputsHealthy = card.blocked.isEmpty
    ∧ { t with evaluator := e.st.evaluator, request := e.st.request } = e.st

/-! ### The report unit -/

/-- REPORT_PERIOD_EXPIRY: one frame of kind 0x81 and tag 0 goes to the desk destination address, with the header, the requests in
flight, every outcome, up to 32 records from the head of the queue and the image slice, as R111 to R114 and R180 lay them out; the
records and outcomes leave with it, the slice pointer advances by the slice size modulo n, the frame sequence rises by 1 and the timer
restarts (R109, R110, R112 to R115). In NORMAL, and in OVERRUN where more than L_q div 4 records are left, nothing else of the queue
changes; the return from OVERRUN is in OverrunEndsAtAQuarter. -/
def Obligations.ReportPeriodEmitsOneFrame : Prop :=
  ∀ (s : State) (b : Bank) (size : Nat) (left : List Record), s.active? = some b → s.report.timer = some 0 →
    size = (if s.report.queueState = .normal then min 64 b.memory.objectCount else min 256 b.memory.objectCount) →
    left = s.report.queue.drop 32 → ∃ t content, exec .reportPeriodExpiry s = .next t
    ∧ t.desk = { s.desk with
        sendList := s.desk.sendList ++ [{ destination := b.memory.deskAddress, kind := 0x81, tag := 0, content := content }] }
    ∧ content =
          toBytes 4 s.report.frameSequence.toNat ++ toBytes 6 s.report.timeBase.toNat
          ++ [BitVec.ofNat 8 (s.report.timeValid.toNat + 2 * s.request.authority.toNat
                + 4 * if s.report.queueState = .overrun then 1 else 0)]
          ++ toBytes 4 s.loop.lastCompleted.toNat ++ [s.loop.state.code] ++ toBytes 4 (b.crc?.getD 0).toNat
          ++ [s.request.reasons.code] ++ toBytes 4 s.report.lostCount.toNat ++ toBytes 2 s.report.slicePointer ++ toBytes 2 size
          ++ [BitVec.ofNat 8 s.request.occupied.length, BitVec.ofNat 8 s.request.outcomes.length,
              BitVec.ofNat 8 (s.report.queue.take 32).length]
          ++ s.request.occupied.flatMap (fun sl => toBytes 2 sl.tag.toNat ++ [sl.state.code])
          ++ s.request.outcomes.flatMap (fun o => toBytes 2 o.tag.toNat ++ [BitVec.ofNat 8 (o.point.getD 0), o.result.code]
              ++ toBytes 6 o.stamp.toNat ++ [match o.reasons with
                | none => (0 : Byte)
                | some r => r.code])
          ++ (s.report.queue.take 32).flatMap Record.bytes
          ++ ((List.range size).filterMap fun k =>
              t.evaluator.objects[(s.report.slicePointer + k) % b.memory.objectCount]?).flatMap (fun o =>
                [o.entry.indication, o.entry.quality.code])
    ∧ (∀ r ∈ s.report.queue, r.bytes.length = 23)
    ∧ t.request = { s.request with outcomes := [] }
    ∧ t.report.slicePointer = (s.report.slicePointer + size) % b.memory.objectCount
    ∧ t.report.frameSequence = s.report.frameSequence + 1 ∧ t.report.framesSent = s.report.framesSent + 1
    ∧ t.report.timer = some b.memory.reportPeriod
    ∧ ((s.report.queueState = .normal ∨ b.memory.queueLimit / 4 < left.length) → t.evaluator = s.evaluator
        ∧ { t.report with
            slicePointer := s.report.slicePointer, frameSequence := s.report.frameSequence, framesSent := s.report.framesSent,
            timer := s.report.timer } = { s.report with queue := left })
    ∧ { t with report := s.report, request := s.request, desk := s.desk, evaluator := s.evaluator } = s

/-- REPORT_PERIOD_EXPIRY in OVERRUN. Where the transfer leaves L_q div 4 records or fewer, the RESYNC marker with the lost count and
stamps stands next, and the queue returns to NORMAL with lost count 0, no stamps and QUEUE_NORMAL 1 (R107), unless the records of its own
round overrun the queue again (R108). Where it leaves more, the queue stays in OVERRUN with its lost count and stamps, and no record is
added. -/
def Obligations.OverrunEndsAtAQuarter : Prop :=
  ∀ (s : State) (b : Bank) (left : List Record), s.active? = some b → s.report.timer = some 0 → s.report.queueState = .overrun →
    b.memory.queueLimit ≤ 512 → left = s.report.queue.drop 32 → ∃ t, exec .reportPeriodExpiry s = .next t
    ∧ (b.memory.queueLimit / 4 < left.length → t.report.queue = left ∧ t.report.queueState = .overrun
        ∧ t.report.lostCount = s.report.lostCount ∧ t.report.firstLost = s.report.firstLost ∧ t.report.lastLost = s.report.lastLost
        ∧ t.evaluator = s.evaluator)
    ∧ (left.length ≤ b.memory.queueLimit / 4 →
        left ++ [.resync s.report.timeBase s.report.lostCount s.report.firstLost s.report.lastLost] <+: t.report.queue
        ∧ (t.report.queueState = .normal → t.report.lostCount = 0 ∧ t.report.firstLost = none ∧ t.report.lastLost = none
            ∧ t.evaluator.conditions.queueNormal = true)
        ∧ ((∀ o ∈ s.evaluator.objects, ∀ tm ∈ o.terms, tm.source ≠ ⟨.condition, 3⟩) → t.report.queueState = .normal
            ∧ t.report.queue = left ++ [.resync s.report.timeBase s.report.lostCount s.report.firstLost s.report.lastLost]
            ∧ t.report.changesLost = s.report.changesLost
            ∧ t.evaluator = { s.evaluator with conditions := { s.evaluator.conditions with queueNormal := true } }))
    ∧ t.report.markersLost = s.report.markersLost ∧ t.report.timeBase = s.report.timeBase

/-- A marker offered below 512 records stands at the tail, whatever the queue state; at 512 it is dropped and counted; the queue state,
the lost count and the lost stamps stay; and a RESYNC marker is never dropped (R106). -/
def Obligations.MarkersUseTheRoomAboveTheLimit : Prop :=
  ∀ (r : ReportUnit) (m : Record),
    (r.queue.length < 512 → r.offerMarker m = { r with queue := r.queue ++ [m] })
    ∧ (r.queue.length = 512 → r.offerMarker m = { r with markersLost := r.markersLost + 1 })
    ∧ (r.offerMarker m).queueState = r.queueState ∧ (r.offerMarker m).lostCount = r.lostCount
    ∧ (r.offerMarker m).firstLost = r.firstLost ∧ (r.offerMarker m).lastLost = r.lastLost
    ∧ ∀ limit, limit ≤ 512 → r.queueState = .overrun → r.queue.length ≤ limit / 4 →
        (r.returnToNormal limit).queue = r.queue ++ [.resync r.timeBase r.lostCount r.firstLost r.lastLost]
        ∧ (r.returnToNormal limit).markersLost = r.markersLost

/-- A CHANGE record meets the queue as R105's table states. An evaluation makes it as R90 to R93 state: an object with no term in the
round stays as it was and makes none. An object with one takes the latest change of each of its terms; its quality is the worst of its
terms', its indication that of its row base and combination index, or its fallback where the quality is FAULT or UNKNOWN. Where that entry
equals the one before, no record is made. Where it differs, one record is made, with the object, the new indication and quality, and the
latest stamp among the object's changed terms with that term's cause, the lower-numbered term's on equal stamps. The records of a round go
to the report unit in ascending object number. -/
def Obligations.ChangeRecordMeetsTheQueue : Prop :=
  (∀ (r : ReportUnit) (limit : Nat) (m : Record) (t : Stamp), limit ≤ 512 →
    (r.queueState = .normal → r.queue.length < limit → r.takeChange limit m t = { r with queue := r.queue ++ [m] })
    ∧ (r.queueState = .normal → limit ≤ r.queue.length → r.takeChange limit m t =
        { r with
          queueState := .overrun, lostCount := 1, firstLost := some t, lastLost := some t, changesLost := r.changesLost + 1 })
    ∧ (r.queueState = .overrun → (r.takeChange limit m t).queue = r.queue ∧ (r.takeChange limit m t).queueState = .overrun
        ∧ (r.takeChange limit m t).lostCount.toNat = min (2 ^ 32 - 1) (r.lostCount.toNat + 1)
        ∧ (r.takeChange limit m t).firstLost = r.firstLost ∧ (r.takeChange limit m t).lastLost = some t
        ∧ (r.takeChange limit m t).changesLost = r.changesLost + 1))
  ∧ (∀ (m : Memory) (round : List TermChange) (j : Nat) (o : ObjectState) (r : ObjectState × Option Record) (changed : TermState → Prop),
    r = evaluateObject m round j o → (∀ tm, changed tm ↔ ∃ c ∈ round, c.source = tm.source) →
    ((∀ tm ∈ o.terms, ¬changed tm) → r = (o, none))
    ∧ ((∃ tm ∈ o.terms, changed tm) → ∀ (ts : List TermState) (entry : ImageEntry),
        ts = o.terms.map (fun tm =>
          match (round.filter fun c => decide (c.source = tm.source)).getLast? with
          | none => tm
          | some c => { source := tm.source, value := c.value, quality := c.quality, stamp := c.stamp, cause := c.cause }) →
        entry = r.1.entry →
        r.1.terms = ts
        ∧ (∀ tm ∈ ts, tm.quality.rank ≤ entry.quality.rank) ∧ (entry.quality = .good ∨ ∃ tm ∈ ts, tm.quality = entry.quality)
        ∧ ((entry.quality = .good ∨ entry.quality = .forced) → entry.indication =
            m.indication ((m.objectEntry j).rowBase + (ts.zipIdx.map fun x => x.1.value.getD 0 * 3 ^ x.2).sum))
        ∧ ((entry.quality = .fault ∨ entry.quality = .unknown) → entry.indication = (m.objectEntry j).fallback)
        ∧ (entry = o.entry → r.2 = none)
        ∧ (entry ≠ o.entry → ∃ (k : Nat) (tm : TermState), ts[k]? = some tm ∧ changed tm
            ∧ r.2 = some (.change j entry.indication entry.quality tm.stamp tm.cause)
            ∧ ∀ (i : Nat) (u : TermState), ts[i]? = some u → changed u →
                u.stamp.toNat < tm.stamp.toNat ∨ u.stamp = tm.stamp ∧ k ≤ i)))
  ∧ ∀ (s : State) (b : Bank) (round : List TermChange), s.active? = some b → s.runRound round =
    { s with
      evaluator := { s.evaluator with objects := s.evaluator.objects.mapIdx fun j o => (evaluateObject b.memory round j o).1 },
      report := ((s.evaluator.objects.mapIdx fun j o => (evaluateObject b.memory round j o).2).filterMap id).foldl
        (fun r m => r.takeChange b.memory.queueLimit m m.stamp) s.report }

/-- SET_TIME from MAINTAIN or CONTROL, with or without a bank active: the time base is loaded, TIME_VALID is true, and the TIME_SET
marker with both values stands in the queue, or is dropped and counted at 512 records (R102, R106). -/
def Obligations.SetTimeLoadsTheTimeBase : Prop :=
  ∀ (s : State) (x : RxMessage) (rest : List RxMessage) (new : Stamp), s.offers x rest 0x20 →
    (s.rightsOf x.source = .maintain ∨ s.rightsOf x.source = .control) → s.checking = false → x.content = toBytes 6 new.toNat →
    ∃ t, exec .setTime s = .next t
    ∧ t.report.timeBase = new ∧ t.report.timeValid = true
    ∧ (s.report.queue.length < 512 → s.report.queue ++ [.timeSet new s.report.timeBase] <+: t.report.queue)
    ∧ (s.report.queue.length = 512 → t.report.markersLost = s.report.markersLost + 1)
    ∧ (s.report.timeValid = false → t.evaluator.conditions.timeValid = true)
    ∧ (s.report.timeValid = true → t.evaluator = s.evaluator)
    ∧ t.report.timer = s.report.timer ∧ t.desk = ((s.afterTaking rest).repliedTo x 0x20 .ok []).desk
    ∧ { t with desk := s.desk, evaluator := s.evaluator, report := s.report } = s

/-! ### Table sets -/

/-- CHECK_COMPLETION: the context is closed, the bank under check holds its CRC and result and is CHECKED_GOOD, with its count set,
where no requirement fails and CHECKED_BAD otherwise, and the reply goes to the sender of CHECK_TABLES with its tag (R154, R155). The
result counts the findings up to 65535, and its first error comes first in the serialisation (R152). The reply's data is the bank state,
the error count, the first error, the warning count, the first warning and the CRC (R178); the fields of an absent error or warning are 0
by the model's reading (log entry 14). -/
def Obligations.CheckCompletionDecidesTheBank : Prop :=
  ∀ (s : State) (c : CheckContext) (m : Memory), s.tables.check = some c → m = (s.tables.bank c.bank).memory →
    ∃ t r, exec .checkCompletion s = .next t
    ∧ t.tables.check = none ∧ (t.tables.bank c.bank).memory = m
    ∧ (t.tables.bank c.bank).result? = some r ∧ (t.tables.bank c.bank).crc? = some (crc32 m.serialise)
    ∧ (m.findings = [] → (t.tables.bank c.bank).state = .checkedGood r m.countSet ∧ (t.tables.bank c.bank).counts = m.countSet)
    ∧ (m.findings ≠ [] → (t.tables.bank c.bank).state = .checkedBad r ∧ r.firstError.isSome = true)
    ∧ r.errorCount = min 65535 m.findings.length ∧ r.warningCount = min 65535 m.warnings.length ∧ r.crc = crc32 m.serialise
    ∧ (∀ f, r.firstError = some f → f ∈ m.findings ∧ ∀ g ∈ m.findings, f.place ≤ g.place) ∧ r.firstWarning = m.warnings.head?
    ∧ (∀ n, n ≠ c.bank → t.tables.bank n = s.tables.bank n) ∧ t.tables.selection = s.tables.selection
    ∧ t.tables.switchPending = s.tables.switchPending
    ∧ (∃ data, t.desk = { s.desk with sendList := s.desk.sendList ++ [replyFrame c.sender c.tag 0x14 .ok data] } ∧ data.length = 16
        ∧ data = [if m.findings = [] then (3 : Byte) else 4] ++ toBytes 2 r.errorCount
          ++ (match r.firstError with
            | none => [0, 0, 0, 0]
            | some f => BitVec.ofNat 8 f.error.code :: BitVec.ofNat 8 f.kind.code :: toBytes 2 f.index)
          ++ toBytes 2 r.warningCount
          ++ (match r.firstWarning with
            | none => [0, 0, 0]
            | some w => BitVec.ofNat 8 w.kind.code :: toBytes 2 w.index)
          ++ toBytes 4 (crc32 m.serialise).toNat)
    ∧ { t with tables := s.tables, desk := s.desk } = s

/-- WRITE_TABLE that passes its checks: exactly the bytes of the entries named are replaced by the payload, the standby becomes LOADING,
the other bank and the selection stay, and the reply is OK (R142, R146). -/
def Obligations.WriteTableReplacesEntries : Prop :=
  ∀ (s : State) (x : RxMessage) (rest : List RxMessage) (k : TableKind) (first count : Nat) (payload : List Byte),
    s.offers x rest 0x10 → s.rightsOf x.source = .maintain → s.checking = false → s.tables.switchPending = false →
    s.tables.standby.memory.wf = true → first < 65536 → count < 65536 →
    x.content = BitVec.ofNat 8 k.code :: (toBytes 2 first ++ toBytes 2 count ++ payload) →
    first + count ≤ k.entries → 1 ≤ count → payload.length = count * k.entrySize → payload.length ≤ 1024 →
    ∃ t, exec .writeTable s = .next t
    ∧ (∀ a, t.tables.standby.memory.read a =
        if k.entryAt first ≤ a ∧ a < k.entryAt first + payload.length then payload.getD (a - k.entryAt first) 0
        else s.tables.standby.memory.read a)
    ∧ t.tables.standby.state = .loading ∧ t.tables.standby.memory.wf = true
    ∧ (∀ n, n ≠ s.tables.standbyName → t.tables.bank n = s.tables.bank n)
    ∧ t.tables.selection = s.tables.selection ∧ t.tables.check = s.tables.check ∧ t.tables.switchPending = false
    ∧ t.desk = ((s.afterTaking rest).repliedTo x 0x10 .ok []).desk
    ∧ { t with tables := s.tables, desk := s.desk } = s

/-- WRITE_TABLE refused, the checks of R146 in their order: a reply, and nothing else changes. -/
def Obligations.WriteTableRefusedInOrder : Prop :=
  ∀ (s : State) (x : RxMessage) (rest : List RxMessage) (code : Byte) (first count : Nat) (payload : List Byte),
    s.offers x rest 0x10 → s.rightsOf x.source = .maintain → first < 65536 → count < 65536 →
    x.content = code :: (toBytes 2 first ++ toBytes 2 count ++ payload) →
    (tableKindOf code.toNat = none → exec .writeTable s = .next ((s.afterTaking rest).repliedTo x 0x10 .badFormat []))
    ∧ ∀ k, tableKindOf code.toNat = some k →
      ((s.checking = true ∨ s.tables.switchPending = true) →
        exec .writeTable s = .next ((s.afterTaking rest).repliedTo x 0x10 .busy []))
      ∧ (s.checking = false → s.tables.switchPending = false → k.entries < first + count →
        exec .writeTable s = .next ((s.afterTaking rest).repliedTo x 0x10 .badIndex []))
      ∧ (s.checking = false → s.tables.switchPending = false → first + count ≤ k.entries →
        (count = 0 ∨ 1024 < payload.length ∨ payload.length ≠ count * k.entrySize) →
        exec .writeTable s = .next ((s.afterTaking rest).repliedTo x 0x10 .badFormat []))

/-- READ_TABLE in order: the entries as the named bank holds them, behind the fields as requested, and no change but the reply (R147,
R178). Refused, in the order of R147: BAD_FORMAT for a bank or kind that is not one of those named, for a count of 0 and for more than
1024 bytes; BUSY while a check is in progress; BAD_INDEX past the kind's entries. -/
def Obligations.ReadTableReturnsEntries : Prop :=
  (∀ (s : State) (x : RxMessage) (rest : List RxMessage) (n : BankName) (k : TableKind) (first count : Nat),
    s.offers x rest 0x11 → (s.rightsOf x.source).allowView = true → s.checking = false → first < 65536 → count < 65536 →
    x.content = n.code :: BitVec.ofNat 8 k.code :: (toBytes 2 first ++ toBytes 2 count) →
    1 ≤ count → count * k.entrySize ≤ 1024 → first + count ≤ k.entries →
    exec .readTable s = .next ((s.afterTaking rest).repliedTo x 0x11 .ok
      (x.content ++ (List.range (count * k.entrySize)).map fun j => (s.tables.bank n).memory.read (k.entryAt first + j))))
  ∧ ∀ (s : State) (x : RxMessage) (rest : List RxMessage) (bank kind : Byte) (first count : Nat),
    s.offers x rest 0x11 → (s.rightsOf x.source).allowView = true → first < 65536 → count < 65536 →
    x.content = bank :: kind :: (toBytes 2 first ++ toBytes 2 count) →
    ((¬(bank.toNat = 1 ∨ bank.toNat = 2) ∨ ¬(1 ≤ kind.toNat ∧ kind.toNat ≤ 9)) →
      exec .readTable s = .next ((s.afterTaking rest).repliedTo x 0x11 .badFormat []))
    ∧ ∀ k, (bank.toNat = 1 ∨ bank.toNat = 2) → tableKindOf kind.toNat = some k →
      ((count = 0 ∨ 1024 < count * k.entrySize) → exec .readTable s = .next ((s.afterTaking rest).repliedTo x 0x11 .badFormat []))
      ∧ (1 ≤ count → count * k.entrySize ≤ 1024 →
        (s.checking = true → exec .readTable s = .next ((s.afterTaking rest).repliedTo x 0x11 .busy []))
        ∧ (s.checking = false → k.entries < first + count →
          exec .readTable s = .next ((s.afterTaking rest).repliedTo x 0x11 .badIndex [])))

/-- COPY_ACTIVE, whole (R148). -/
def Obligations.CopyActiveCopiesTheBank : Prop :=
  ∀ (s : State) (x : RxMessage) (rest : List RxMessage), s.offers x rest 0x12 → s.rightsOf x.source = .maintain → x.content = [] →
    (s.tables.selection = none → exec .copyActive s = .next ((s.afterTaking rest).repliedTo x 0x12 .noActive []))
    ∧ (s.tables.selection ≠ none → (s.checking = true ∨ s.tables.switchPending = true) →
        exec .copyActive s = .next ((s.afterTaking rest).repliedTo x 0x12 .busy []))
    ∧ ∀ b r counts, s.active? = some b → b.state = .checkedGood r counts → s.checking = false → s.tables.switchPending = false →
        ∃ t, exec .copyActive s = .next t
        ∧ t.tables.standby.memory = b.memory ∧ t.tables.standby.memory.serialise = b.memory.serialise
        ∧ t.tables.standby.state = .checkedGood r counts ∧ t.tables.standby.crc? = b.crc? ∧ t.tables.standby.result? = b.result?
        ∧ t.tables.standby.counts = b.counts ∧ t.active? = some b ∧ t.tables.selection = s.tables.selection
        ∧ t.tables.check = s.tables.check ∧ t.tables.switchPending = false
        ∧ t.desk = ((s.afterTaking rest).repliedTo x 0x12 .ok []).desk
        ∧ { t with tables := s.tables, desk := s.desk } = s

/-- CLEAR_STANDBY, whole (R149). -/
def Obligations.ClearStandbyEmptiesTheBank : Prop :=
  ∀ (s : State) (x : RxMessage) (rest : List RxMessage), s.offers x rest 0x13 → s.rightsOf x.source = .maintain → x.content = [] →
    ((s.checking = true ∨ s.tables.switchPending = true) →
      exec .clearStandby s = .next ((s.afterTaking rest).repliedTo x 0x13 .busy []))
    ∧ (s.checking = false → s.tables.switchPending = false → ∃ t, exec .clearStandby s = .next t
      ∧ (∀ a, t.tables.standby.memory.read a = 0) ∧ t.tables.standby.state = .empty ∧ t.tables.standby.crc? = none
      ∧ t.tables.standby.result? = none ∧ t.tables.standby.counts = CountSet.none
      ∧ (∀ n, n ≠ s.tables.standbyName → t.tables.bank n = s.tables.bank n) ∧ t.tables.selection = s.tables.selection
      ∧ (s.tables.standby = { memory := [], state := .empty } → t.tables = s.tables)
      ∧ t.desk = ((s.afterTaking rest).repliedTo x 0x13 .ok []).desk
      ∧ { t with tables := s.tables, desk := s.desk } = s)

/-- CHECK_TABLES: the standby is CHECKING, the context holds the bank, the sender and the tag with counts at 0, no reply is sent, and
the check is to end within 250 ms (R150). -/
def Obligations.CheckTablesOpensTheContext : Prop :=
  ∀ (s : State) (x : RxMessage) (rest : List RxMessage), s.offers x rest 0x14 → s.rightsOf x.source = .maintain → x.content = [] →
    ((s.checking = true ∨ s.tables.switchPending = true) →
      exec .checkTables s = .next ((s.afterTaking rest).repliedTo x 0x14 .busy []))
    ∧ (s.checking = false → s.tables.switchPending = false → ∃ t c, exec .checkTables s = .next t
      ∧ t.tables.check = some c ∧ c.bank = s.tables.standbyName ∧ c.sender = x.source ∧ c.tag = x.taken.tag ∧ c.errors = 0
      ∧ c.warnings = 0 ∧ c.firstError = none ∧ c.firstWarning = none ∧ c.remaining ≤ 250
      ∧ t.tables.standby = { s.tables.standby with state := .checking }
      ∧ (∀ n, n ≠ s.tables.standbyName → t.tables.bank n = s.tables.bank n) ∧ t.tables.selection = s.tables.selection
      ∧ t.clock.own = s.clock.own
      ∧ { t with tables := s.tables, clock := s.clock } = s.afterTaking rest)

/-- SWITCH_TABLES in SURVEY and RUNNING: the checks of R156 in order, and an accepted switch is answered OK and becomes pending with
nothing else changed (R156, R157). -/
def Obligations.SwitchTablesBecomesPending : Prop :=
  ∀ (s : State) (x : RxMessage) (rest : List RxMessage) (crc : Word32), s.offers x rest 0x15 → s.rightsOf x.source = .maintain →
    x.content = toBytes 4 crc.toNat → (s.loop.state = .survey ∨ s.loop.state = .running) →
    ((s.checking = true ∨ s.tables.switchPending = true) →
      exec .switchTables s = .next ((s.afterTaking rest).repliedTo x 0x15 .busy []))
    ∧ (s.checking = false → s.tables.switchPending = false →
      ((¬s.tables.standby.passed → exec .switchTables s = .next ((s.afterTaking rest).repliedTo x 0x15 .notChecked []))
      ∧ (s.tables.standby.passed → s.tables.standby.crc? ≠ some crc →
          exec .switchTables s = .next ((s.afterTaking rest).repliedTo x 0x15 .crcMismatch []))
      ∧ (s.tables.standby.passed → s.tables.standby.crc? = some crc → ∃ t, exec .switchTables s = .next t
          ∧ t.tables = { s.tables with switchPending := true }
          ∧ { t with tables := s.tables } = (s.afterTaking rest).repliedTo x 0x15 .ok [])))

/-- A switch that takes effect, whichever event brings it about: at once on SWITCH_TABLES in IDLE and DOWN, or at the sweep due event in
SURVEY and RUNNING, also where that event loses a sweep or, with the third lost in a row, enters DOWN (R157). The selection moves to the
standby and no bank changes (R158); the TABLE_SWITCH marker with the new CRC follows the queue; the forced list is empty and every input
UNKNOWN (R51); every pair is UNKNOWN (R81); the flasher monitor starts on the new nominal period (R68). Every slot ends
ABORTED_TABLE_SWITCH, no output is blocked, every carried state is absent until a sweep leaves, the proof sources are the new bank's, and
authority does not hold (R137); the keepalive stays where the table issue and the CONTROL address are the same in both banks (R138). The
position records and the loop state are those of R19. The image is built anew: an object with an input or pair term shows its fallback
and UNKNOWN, any other what the table and the condition values give (R97). The slice pointer is 0 and a first switch starts the report
timer (R109, R117). A switch still pending when the restart delay ends takes effect there, before the first survey sweep (log entry 19, the
model's reading); and where a RESURVEY or READMIT_CARD waits beside the switch, the switch comes first, by the model's reading (log
entry 30): by it alone the marker follows the queue directly and every slot ends ABORTED_TABLE_SWITCH in that case. -/
def Obligations.SwitchTakesEffect : Prop :=
  ∀ (s t : State) (m : Memory) (third : Bool), m = s.tables.standby.memory →
    third = (s.loop.inFlight.isSome && decide (2 ≤ s.loop.lostCount) && decide (s.loop.state ≠ .down)) →
    s.report.queue.length < 512 → s.loop.positions.length = 32 →
    ((∃ x rest r counts, s.offers x rest 0x15 ∧ s.rightsOf x.source = .maintain ∧ s.checking = false ∧ s.tables.switchPending = false
        ∧ s.tables.standby.state = .checkedGood r counts ∧ x.content = toBytes 4 r.crc.toNat ∧ s.loop.inFlight = none
        ∧ (s.loop.state = .idle ∨ s.loop.state = .down) ∧ exec .switchTables s = .next t)
      ∨ ((∃ b, s.active? = some b) ∧ (∃ n, s.loop.sweepTimer = some n) ∧ s.tables.switchPending = true
        ∧ (s.loop.state = .survey ∨ s.loop.state = .running) ∧ exec .sweepDue s = .next t)
      ∨ ((∃ b, s.active? = some b) ∧ s.loop.restartDelay = some 0 ∧ s.loop.inFlight = none ∧ s.tables.switchPending = true
        ∧ s.loop.state = .survey ∧ exec .restartSurveyDelay s = .next t)) →
    t.tables = { s.tables with selection := some s.tables.standbyName, switchPending := false }
    ∧ s.report.queue <+: t.report.queue
    ∧ (s.loop.inFlight = none →
        s.report.queue ++ [.tableSwitch s.report.timeBase (s.tables.standby.crc?.getD 0)] <+: t.report.queue
        ∧ t.request.outcomes = s.request.outcomes ++ s.request.occupied.map (fun sl =>
            { tag := sl.tag, point := some sl.point, result := .abortedTableSwitch, stamp := s.report.timeBase, reasons := none }))
    ∧ s.request.outcomes <+: t.request.outcomes
    ∧ t.filter.forced = [] ∧ t.filter.inputs.map Prod.fst = m.mappedInputs
    ∧ (∀ y ∈ t.filter.inputs, y.2.debounced = none ∧ y.2.candidate = none ∧ y.2.settled = none ∧ y.2.run = none)
    ∧ t.pairs.map Prod.fst = m.pairNumbers ∧ (∀ y ∈ t.pairs, y.2.state = .unknown ∧ y.2.quality = .unknown ∧ y.2.transit = 0)
    ∧ t.flasher = { FlasherMonitor.reset with period := some s.tables.standby.counts.nominal }
    ∧ t.request.occupied = [] ∧ t.commandedOn = [] ∧ t.request.blocked = [] ∧ t.evaluator.conditions.outputsHealthy = true
    ∧ t.request.authority = false ∧ t.evaluator.conditions.authority = false ∧ t.request.reasons.changeoverNotDesk = true
    ∧ t.request.changeover = some (.unknown, .unknown) ∧ t.request.mismatch = false
    ∧ (∀ ps ∈ t.request.proofs, ps.value = none ∧ ps.quality = .unknown)
    ∧ (∀ q src, q < 256 → m.defined q = true → m.proofSource? q = some src → ∃ ps ∈ t.request.proofs, ps.source = src)
    ∧ (∀ b, s.active? = some b → b.memory.issueValue? keywordTI = m.issueValue? keywordTI →
        b.memory.controlAddress? = m.controlAddress? → t.request.lastKeepalive = s.request.lastKeepalive
        ∧ (t.request.expired = true ↔ ∃ a, s.request.lastKeepalive = some a ∧ s.tables.standby.counts.watchdog ≤ s.clock.own - a))
    ∧ (∀ b, s.active? = some b → (b.memory.issueValue? keywordTI ≠ m.issueValue? keywordTI
          ∨ b.memory.controlAddress? ≠ m.controlAddress?) → t.request.lastKeepalive = none ∧ t.request.expired = false)
    ∧ (s.active? = none → t.request.lastKeepalive = none ∧ t.request.expired = false)
    ∧ t.report.slicePointer = 0 ∧ (s.tables.selection = none → t.report.timer = some s.tables.standby.memory.reportPeriod)
    ∧ (s.tables.selection ≠ none → t.report.timer = s.report.timer)
    ∧ (∀ p, p < 32 → ∀ before after, before = s.loop.position p → after = t.loop.position p →
        after.score = 0 ∧ after.corrupt = before.corrupt
        ∧ (m.expectedType p = 0 → after.judged = .notExpected ∧ after.surveyed = none ∧ after.missed = 0 ∧ after.supplyLow = false)
        ∧ (m.expectedType p ≠ 0 → after.surveyed = before.surveyed ∧ after.supplyLow = before.supplyLow
            ∧ after.judged = if before.judged = .isolated then .missing else before.judged))
    ∧ t.imageGood
    ∧ (∀ (j : Nat) (o : ObjectState), t.evaluator.objects[j]? = some o →
        (∀ tm ∈ o.terms, (tm.source.kind ≠ .condition → tm.value = none ∧ tm.quality = .unknown)
          ∧ (tm.source.kind = .condition →
              tm.value = some (t.evaluator.conditions.get tm.source.index).toNat ∧ tm.quality = .good))
        ∧ ((∃ tm ∈ o.terms, tm.source.kind ≠ .condition) → o.entry = { indication := (m.objectEntry j).fallback, quality := .unknown }))
    ∧ t.evaluator.conditions.loopRunning = t.loopRunning ∧ t.evaluator.conditions.cardsHealthy = t.cardsHealthy
    ∧ t.evaluator.conditions.flasherOk = t.flasherOk
    ∧ (s.loop.state = .down → t.loop.state = .down ∧ t.loop.retryWait = s.loop.retryWait ∧ t.loop.sweepsSent = s.loop.sweepsSent
        ∧ t.request.carried = [])
    ∧ (third = true → t.loop.state = .down ∧ t.loop.retryWait = some 1000 ∧ t.loop.inFlight = none ∧ t.loop.sweepTimer = none
        ∧ t.loop.sweepsSent = s.loop.sweepsSent ∧ t.loop.sweepsLost = s.loop.sweepsLost + 1 ∧ t.request.carried = [])
    ∧ (s.loop.state = .idle → t.loop.state = .survey)
    ∧ (∀ b, s.active? = some b → (s.loop.state = .survey ∨ s.loop.state = .running) → third = false →
        s.loop.pendingResurvey = false → s.loop.pendingReadmit = [] → t.loop.state =
          if b.memory.sweepPeriod = m.sweepPeriod ∧ b.memory.slice 32 320 = m.slice 32 320 then s.loop.state else .survey)
    ∧ (s.loop.state ≠ .down → third = false → t.loop.sweepsSent = s.loop.sweepsSent + 1
        ∧ t.loop.sweepTimer = some s.tables.standby.memory.sweepPeriod
        ∧ (∃ sw, t.loop.inFlight = some sw ∧ t.loop.loopOut = sweepFrame sw m.outputPositions [])
        ∧ ∀ p ∈ m.outputPositions, ∀ j, j < 16 → t.request.carriedOf (outputKey p j) = { state := some false, grace := 2 })
    ∧ (s.loop.state = .survey ∨ s.loop.state = .running → t.desk = s.desk)
    ∧ (∀ x rest, s.desk.receiveQueue = x :: rest → (s.loop.state = .idle ∨ s.loop.state = .down) →
        t.desk = ((s.afterTaking rest).repliedTo x 0x15 .ok []).desk)
    ∧ t.clock = s.clock ∧ t.pending = s.pending

/-! ### The desk port -/

/-- DESK_FRAME_RECEIVED: FCS, then the filter, then the receive queue of 4 (R162). -/
def Obligations.ReceivedFrameIsSorted : Prop :=
  ∀ (s : State) (frame : List Byte), s.desk.linkUp = true →
    (fcsGood frame = false →
      exec (.deskFrameReceived frame) s = .next { s with desk := { s.desk with fcsErrors := s.desk.fcsErrors + 1 } })
    ∧ (fcsGood frame = true → (fieldAt frame 0 6 ≠ s.desk.ownAddress.toNat ∨ fieldAt frame 12 2 ≠ 0xB7E2) →
      exec (.deskFrameReceived frame) s = .next s)
    ∧ (fcsGood frame = true → fieldAt frame 0 6 = s.desk.ownAddress.toNat → fieldAt frame 12 2 = 0xB7E2 →
      ∀ x : RxMessage, x = { source := BitVec.ofNat 48 (fieldAt frame 6 6), body := (frame.take (frame.length - 4)).drop 14 } →
        exec (.deskFrameReceived frame) s = .next
          (if x.body.length < 3 then { s with desk := { s.desk with malformed := s.desk.malformed + 1 } }
          else if s.desk.receiveQueue.length < 4 then { s with desk := { s.desk with receiveQueue := s.desk.receiveQueue ++ [x] } }
          else { s with desk := { s.desk with overflows := s.desk.overflows + 1 } }))

/-- FRAME_SEND: the frame at the head of the send list leaves, or with the link down is discarded and counted; the frames go in the
order handed (R164). -/
def Obligations.FramesLeaveInOrder : Prop :=
  ∀ (s : State) (f : TxFrame) (rest : List TxFrame), s.desk.sendList = f :: rest → ∃ t, exec .frameSend s = .next t
    ∧ t.desk.sendList = rest
    ∧ (s.desk.linkUp = true → t.desk.notSent = s.desk.notSent
        ∧ toBytes 6 f.destination.toNat ++ toBytes 6 s.desk.ownAddress.toNat ++ [0xB7, 0xE2, f.kind] ++ toBytes 2 f.tag.toNat
          ++ toBytes 2 f.content.length ++ f.content <+: t.desk.wire)
    ∧ (s.desk.linkUp = false → t.desk.notSent = s.desk.notSent + 1 ∧ t.desk.wire = s.desk.wire)
    ∧ { t with desk := { t.desk with sendList := s.desk.sendList, notSent := s.desk.notSent, wire := s.desk.wire } } = s

/-- IDENTIFY, whole (R169): every field of the reply, in every state of the part, and nothing else changes. -/
def Obligations.IdentifyIsAnswered : Prop :=
  ∀ (s : State) (x : RxMessage) (rest : List RxMessage), s.offers x rest 0x01 → (s.rightsOf x.source).allowView = true → x.content = [] →
    exec .identify s = .next ((s.afterTaking rest).repliedTo x 0x01 .ok
      (toBytes 2 7120 ++ [1] ++ toBytes 6 s.desk.ownAddress.toNat ++ [(s.rightsOf x.source).code]
        ++ [match s.tables.selection with
            | none => (0 : Byte)
            | some .a => 1
            | some .b => 2]
        ++ toBytes 4 ((s.active?.bind Bank.crc?).getD 0).toNat ++ toBytes 6 s.report.timeBase.toNat
        ++ [if s.report.timeValid then (1 : Byte) else 0]
        ++ (match s.active?.bind fun b => b.memory.issueValue? keywordSI with
            | none => ([0xFF] : List Byte)
            | some v => BitVec.ofNat 8 v.length :: v)
        ++ (match s.active?.bind fun b => b.memory.issueValue? keywordTI with
            | none => ([0xFF] : List Byte)
            | some v => BitVec.ofNat 8 v.length :: v)))

/-- READ_STATUS is answered, while a check is in progress and while a switch is pending too, with the state of every block, and changes
nothing but the desk port's queues (R170). Its data, block by block in the order of R170 and coded by R179: desk port, table store (R161),
loop controller (R22), forced list (R53), flasher monitor (R68), changeover pair (R82), object evaluator, report unit (R116) and request
engine (R140). The model's readings: which items take 4 bytes as counts, the codes of link status and authority, that items of an absent
bank are absent, and that the queue's occupancy is that behind the request (log entry 14). A keepalive older than its field holds shows a
free value (log entry 8). With the reply's 7 bytes before it the data fits the 1500 bytes of an Ethernet payload, a figure from outside
the spec (log entry 39). -/
def Obligations.ReadStatusIsAnswered : Prop :=
  ∀ (s : State) (x : RxMessage) (rest : List RxMessage) (flag : Bool → Byte) (absent : Nat → List Byte),
    s.offers x rest 0x02 → (s.rightsOf x.source).allowView = true → x.content = [] →
    s.filter.forced.length ≤ 32 → s.request.slots.length ≤ 8 →
    flag = (fun b => if b then 1 else 0) → absent = (fun n => List.replicate n 0xFF) → ∃ data,
    exec .readStatus s = .next ((s.afterTaking rest).repliedTo x 0x02 .ok data) ∧ data.length ≤ 1500 - 7
    ∧ (∀ (keys : List Nat) (p j : Nat), j < 16 → (outputBits keys p).getLsbD j = decide (outputKey p j ∈ keys))
    ∧ data =
      toBytes 6 s.desk.ownAddress.toNat ++ [if s.desk.linkUp then 0 else 1] ++ toBytes 4 rest.length ++ [(s.rightsOf x.source).code]
      ++ [match s.tables.selection with
          | none => (0 : Byte)
          | some .a => 1
          | some .b => 2, flag s.tables.switchPending, flag s.checking]
      ++ [s.tables.bankA, s.tables.bankB].flatMap (fun b =>
          [b.state.code] ++ (match b.crc? with
            | none => absent 4
            | some c => toBytes 4 c.toNat)
          ++ (match b.result? with
            | none => absent 16
            | some r => checkResultBytes b.state.code r))
      ++ [s.loop.state.code] ++ toBytes 4 s.loop.sweepNumber.toNat ++ toBytes 4 s.loop.lastCompleted.toNat ++ [flag s.loop.excess]
      ++ (List.range 32).flatMap (fun p =>
          [(s.loop.position p).judged.code] ++ (match (s.loop.position p).surveyed with
            | none => absent 5
            | some c => c.cardType :: toBytes 4 c.identity.toNat)
          ++ toBytes 4 (s.loop.position p).missed ++ [flag (s.loop.position p).supplyLow] ++ toBytes 4 (s.loop.position p).score)
      ++ [BitVec.ofNat 8 s.filter.forced.length] ++ s.filter.forced.flatMap (fun y => toBytes 2 y.1 ++ [flag (decide (y.2 = .closed))])
      ++ (match s.active? with
          | none => absent 5
          | some b => b.memory.flasherMode.code :: toBytes 4 b.counts.nominal)
      ++ (match s.flasher.period with
          | none => absent 4
          | some p => toBytes 4 p)
      ++ (match s.flasher.lastMeasured with
          | none => absent 4
          | some p => toBytes 4 p)
      ++ toBytes 4 s.flasher.cycles ++ [s.flasher.measuring, s.flasher.fault, s.flasher.stopped, s.flasher.abandoned].map flag
      ++ (match s.active? with
          | none => absent 4
          | some b => toBytes 2 b.memory.changeover ++ (match keyedGet b.memory.changeover s.pairs with
            | none => absent 2
            | some r => [r.state.code, r.quality.code]))
      ++ (match s.active? with
          | none => toBytes 4 0
          | some b => toBytes 4 b.memory.objectCount)
      ++ [s.evaluator.conditions.loopRunning, s.evaluator.conditions.authority, s.evaluator.conditions.flasherOk,
          s.evaluator.conditions.queueNormal, s.evaluator.conditions.outen, s.evaluator.conditions.outputsHealthy,
          s.evaluator.conditions.timeValid, s.evaluator.conditions.cardsHealthy].map flag
      ++ toBytes 6 s.report.timeBase.toNat ++ [flag s.report.timeValid, flag (decide (s.report.queueState = .overrun))]
      ++ toBytes 4 s.report.queue.length ++ toBytes 4 s.report.lostCount.toNat
      ++ [s.report.firstLost, s.report.lastLost].flatMap (fun stamp => match stamp with
          | none => absent 6
          | some t => toBytes 6 t.toNat)
      ++ (match s.active? with
          | none => absent 4
          | some b => toBytes 4 b.memory.queueLimit)
      ++ toBytes 4 s.report.frameSequence.toNat ++ toBytes 2 s.report.slicePointer
      ++ [flag (!s.request.authority), s.request.reasons.code, flag s.request.outen]
      ++ (match s.request.lastKeepalive with
          | none => absent 4
          | some a => if s.clock.own - a < 2 ^ 32 then toBytes 4 (s.clock.own - a) else toBytes 4 (Config.longAge (s.clock.own - a)).toNat)
      ++ [flag s.request.mismatch, BitVec.ofNat 8 s.request.occupied.length]
      ++ s.request.occupied.flatMap (fun sl =>
          toBytes 2 sl.tag.toNat ++ [BitVec.ofNat 8 sl.point, sl.state.code] ++ toBytes 6 sl.accepted.toNat ++ toBytes 4 sl.count
          ++ (List.range 3).map fun k => match sl.steps[k]? with
            | none => (0xFF : Byte)
            | some st => st.code)
      ++ toBytes 4 s.request.outcomes.length
      ++ (List.range 32).flatMap (fun p => toBytes 2 (outputBits s.request.blocked p).toNat)
      ++ (List.range 32).flatMap (fun p => toBytes 2 (outputBits s.commandedOn p).toNat)

/-- READ_STATISTICS and CLEAR_STATISTICS (R171): the reading answers with the statistics of the desk port, the loop controller with the
corrupt reports of positions 0 to 31, the report unit and the request engine, in this order, and changes nothing; the clearing sets them
to 0 but for the loop up time, and leaves that, the lost count and every other state. -/
def Obligations.StatisticsAreReadAndCleared : Prop :=
  ∀ (s : State) (x : RxMessage) (rest : List RxMessage), x.content = [] → s.checking = false →
    (s.offers x rest 0x03 → (s.rightsOf x.source).allowView = true → ∃ data,
      exec .readStatistics s = .next ((s.afterTaking rest).repliedTo x 0x03 .ok data) ∧ data.length = 176
      ∧ data.take 28 = [s.desk.fcsErrors, s.desk.malformed, s.desk.overflows, s.desk.controlDropped, s.desk.notSent,
          s.loop.sweepsSent, s.loop.sweepsLost].flatMap (fun w => toBytes 4 w.toNat)
      ∧ (data.drop 28).take 128 = (List.range 32).flatMap (fun p => toBytes 4 (s.loop.position p).corrupt.toNat)
      ∧ data.drop 156 = [s.loop.upTime, s.report.framesSent, s.report.changesLost, s.report.markersLost, s.request.discarded].flatMap
          (fun w => toBytes 4 w.toNat))
    ∧ (s.offers x rest 0x04 → s.rightsOf x.source = .maintain → ∃ t, exec .clearStatistics s = .next t
      ∧ t.desk = { s.desk with
          receiveQueue := rest, sendList := s.desk.sendList ++ [replyFrame x.source x.taken.tag 0x04 .ok []],
          fcsErrors := 0, malformed := 0, overflows := 0, controlDropped := 0, notSent := 0 }
      ∧ t.loop = { s.loop with
          sweepsSent := 0, sweepsLost := 0, positions := s.loop.positions.map fun r => { r with corrupt := 0 } }
      ∧ t.loop.upTime = s.loop.upTime
      ∧ t.report = { s.report with framesSent := 0, changesLost := 0, markersLost := 0 }
      ∧ t.request = { s.request with discarded := 0 }
      ∧ { t with desk := s.desk, loop := s.loop, report := s.report, request := s.request } = s)

/-- A management request beyond its sender's rights is answered REFUSED_RIGHTS before any other check (R166, R167). Within them, a content
that does not have its kind's form is answered BAD_FORMAT (the first step of R168, with the coded values of R177 and R178), and with it,
while a check is in progress, the requests of R168's second step are answered BUSY, whoever sends them. Nothing else changes. -/
def Obligations.RightsComeFirstThenBusy : Prop :=
  ∀ (i : Instr) (kind : Byte) (allowed : Rights → Bool) (form : List Byte → Bool), (i, kind, allowed, form) ∈ managementRequests →
    ∀ (s : State) (x : RxMessage) (rest : List RxMessage), s.offers x rest kind →
    (allowed (s.rightsOf x.source) = false → exec i s = .next ((s.afterTaking rest).repliedTo x kind .refusedRights []))
    ∧ (allowed (s.rightsOf x.source) = true → form x.content = false →
        exec i s = .next ((s.afterTaking rest).repliedTo x kind .badFormat []))
    ∧ (i ∈ busyDuringCheck → allowed (s.rightsOf x.source) = true → form x.content = true → s.checking = true →
        exec i s = .next ((s.afterTaking rest).repliedTo x kind .busy []))

/-- UNKNOWN_KIND: one reply BAD_FORMAT with the message's kind and tag, whatever its sender's rights, and nothing else changes (R165).
A control message that does not come from the CONTROL station, or whose content does not have its kind's length, is dropped without a
reply and counted (R167). -/
def Obligations.UnknownAnsweredAndControlDropped : Prop :=
  (∀ (s : State) (x : RxMessage) (rest : List RxMessage), s.desk.receiveQueue = x :: rest → x.kind ∉ knownKinds →
    exec .unknownKind s = .next ((s.afterTaking rest).repliedTo x x.kind .badFormat []))
  ∧ ∀ (i : Instr) (kind : Byte) (form : List Byte → Bool),
    (i, kind, form) ∈ [(.keepalive, 0x40, fun c => decide (c.length = 1 + (byteAt c 0).toNat) && decide ((byteAt c 0).toNat ≤ 60)),
      (.operate, 0x41, fun c => decide (c.length = 1)), (.cancel, 0x42, fun c => decide (c.length = 2))] →
    ∀ (s : State) (x : RxMessage) (rest : List RxMessage), s.offers x rest kind →
      (s.rightsOf x.source ≠ .control ∨ form x.content = false) →
      exec i s = .next { s with desk := { s.desk with receiveQueue := rest, controlDropped := s.desk.controlDropped + 1 } }

/-! ### The whole part -/

/-- Every step keeps the bounds of the receive queue (R162) and of the report queue, whose lost count and stamps are 0 and absent in
NORMAL (R104). -/
def Obligations.StepsKeepTheQueuesBounded : Prop :=
  ∀ s t : State, s.receiveQueueGood → s.reportQueueGood → step s = .next t → t.receiveQueueGood ∧ t.reportQueueGood

/-- Every step keeps the forced list as R47 states, and the position records within their ranges: missed reads to 3 (R11), the corrupt
score to 71 and, but at ISOLATED positions, to 63 (R9, R10), and the phase counter (R1). -/
def Obligations.StepsKeepForcedListAndPositions : Prop :=
  ∀ s t : State, s.forcedListGood → s.positionsGood → step s = .next t → t.forcedListGood ∧ t.positionsGood

/-- Every step keeps the banks: canonical images, a CHECKED_GOOD active bank (R141), a check on the standby alone (R150), a protected
standby while a switch is pending (R157); and with them the period in use within its band (R64). -/
def Obligations.StepsKeepTheBanks : Prop :=
  ∀ s t : State, s.banksGood → s.periodGood → step s = .next t → t.banksGood ∧ t.periodGood

/-- Every step keeps 8 slots and at most 16 places in use (R124), and wherever authority does not hold no slot is occupied and every
output stands off (R121). -/
def Obligations.StepsKeepTheRequests : Prop :=
  ∀ s t : State, s.placesGood → s.authorityGood → step s = .next t → t.placesGood ∧ t.authorityGood

/-- Every step keeps the outputs of the occupied slots apart from one another and from the blocked outputs (R128). -/
def Obligations.StepsKeepOutputsApart : Prop := ∀ s t : State, s.outputsApart → step s = .next t → t.outputsApart

/-- Every step keeps the indication image: one entry for each object in use, its terms those of the active bank's table, and the entry
what the table and its terms' current values and qualities give (R83, R95, R100); with no bank active there is none. -/
def Obligations.StepsKeepTheImage : Prop := ∀ s t : State, s.imageGood → step s = .next t → t.imageGood

/-- Every invariant above holds right after reset. -/
def Obligations.ResetMeetsTheInvariants : Prop :=
  State.reset.receiveQueueGood ∧ State.reset.reportQueueGood ∧ State.reset.forcedListGood ∧ State.reset.positionsGood
    ∧ State.reset.banksGood ∧ State.reset.periodGood ∧ State.reset.placesGood ∧ State.reset.authorityGood ∧ State.reset.outputsApart
    ∧ State.reset.imageGood

/-- The active bank is changed by no command but a power-on, a reset, a restart or a switch (R141, R156): with no switch pending, every
other command leaves it as it was, tables, CRC, result and counts. -/
def Obligations.OnlySwitchesChangeTheActiveBank : Prop :=
  ∀ (i : Instr) (s t : State), s.banksGood → s.tables.switchPending = false →
    (∀ straps outen link, i ≠ .powerOn straps outen link) → i ≠ .resetPin → i ≠ .restart → i ≠ .switchTables →
    exec i s = .next t → t.tables.selection = s.tables.selection ∧ t.active? = s.active?

/-- Only an OPERATE occupies a slot: after any other command, the requests in flight are some of those before, under their tags and
points (R126, R127). -/
def Obligations.OnlyOperateOccupiesASlot : Prop :=
  ∀ (i : Instr) (s t : State), i ≠ .operate → exec i s = .next t →
    (t.request.occupied.map fun sl => (sl.tag, sl.point)).Sublist (s.request.occupied.map fun sl => (sl.tag, sl.point))
end

