-- ==== Sys2Proof/Laws/State.lean ====
section
/-! SUPPORT. One lemma per field of `State` for each update of a state, so that no later proof unfolds one. -/

namespace Sys2Proof.Machine

@[simp] theorem State.onLoop_loop (s : State) (f : LoopController → LoopController) : (s.onLoop f).loop = f s.loop := rfl
@[simp] theorem State.onLoop_filter (s : State) (f : LoopController → LoopController) : (s.onLoop f).filter = s.filter := rfl
@[simp] theorem State.onLoop_flasher (s : State) (f : LoopController → LoopController) : (s.onLoop f).flasher = s.flasher := rfl
@[simp] theorem State.onLoop_pairs (s : State) (f : LoopController → LoopController) : (s.onLoop f).pairs = s.pairs := rfl
@[simp] theorem State.onLoop_evaluator (s : State) (f : LoopController → LoopController) : (s.onLoop f).evaluator = s.evaluator := rfl
@[simp] theorem State.onLoop_report (s : State) (f : LoopController → LoopController) : (s.onLoop f).report = s.report := rfl
@[simp] theorem State.onLoop_request (s : State) (f : LoopController → LoopController) : (s.onLoop f).request = s.request := rfl
@[simp] theorem State.onLoop_tables (s : State) (f : LoopController → LoopController) : (s.onLoop f).tables = s.tables := rfl
@[simp] theorem State.onLoop_desk (s : State) (f : LoopController → LoopController) : (s.onLoop f).desk = s.desk := rfl
@[simp] theorem State.onLoop_clock (s : State) (f : LoopController → LoopController) : (s.onLoop f).clock = s.clock := rfl
@[simp] theorem State.onLoop_pending (s : State) (f : LoopController → LoopController) : (s.onLoop f).pending = s.pending := rfl
@[simp] theorem State.onLoop_active (s : State) (f : LoopController → LoopController) : (s.onLoop f).active? = s.active? := rfl
@[simp] theorem State.onLoop_now (s : State) (f : LoopController → LoopController) : (s.onLoop f).now = s.now := rfl

@[simp] theorem State.onRequest_loop (s : State) (f : RequestEngine → RequestEngine) : (s.onRequest f).loop = s.loop := rfl
@[simp] theorem State.onRequest_filter (s : State) (f : RequestEngine → RequestEngine) : (s.onRequest f).filter = s.filter := rfl
@[simp] theorem State.onRequest_flasher (s : State) (f : RequestEngine → RequestEngine) : (s.onRequest f).flasher = s.flasher := rfl
@[simp] theorem State.onRequest_pairs (s : State) (f : RequestEngine → RequestEngine) : (s.onRequest f).pairs = s.pairs := rfl
@[simp] theorem State.onRequest_evaluator (s : State) (f : RequestEngine → RequestEngine) : (s.onRequest f).evaluator = s.evaluator := rfl
@[simp] theorem State.onRequest_report (s : State) (f : RequestEngine → RequestEngine) : (s.onRequest f).report = s.report := rfl
@[simp] theorem State.onRequest_request (s : State) (f : RequestEngine → RequestEngine) : (s.onRequest f).request = f s.request := rfl
@[simp] theorem State.onRequest_tables (s : State) (f : RequestEngine → RequestEngine) : (s.onRequest f).tables = s.tables := rfl
@[simp] theorem State.onRequest_desk (s : State) (f : RequestEngine → RequestEngine) : (s.onRequest f).desk = s.desk := rfl
@[simp] theorem State.onRequest_clock (s : State) (f : RequestEngine → RequestEngine) : (s.onRequest f).clock = s.clock := rfl
@[simp] theorem State.onRequest_pending (s : State) (f : RequestEngine → RequestEngine) : (s.onRequest f).pending = s.pending := rfl
@[simp] theorem State.onRequest_active (s : State) (f : RequestEngine → RequestEngine) : (s.onRequest f).active? = s.active? := rfl
@[simp] theorem State.onRequest_now (s : State) (f : RequestEngine → RequestEngine) : (s.onRequest f).now = s.now := rfl

@[simp] theorem State.onDesk_loop (s : State) (f : DeskPort → DeskPort) : (s.onDesk f).loop = s.loop := rfl
@[simp] theorem State.onDesk_filter (s : State) (f : DeskPort → DeskPort) : (s.onDesk f).filter = s.filter := rfl
@[simp] theorem State.onDesk_flasher (s : State) (f : DeskPort → DeskPort) : (s.onDesk f).flasher = s.flasher := rfl
@[simp] theorem State.onDesk_pairs (s : State) (f : DeskPort → DeskPort) : (s.onDesk f).pairs = s.pairs := rfl
@[simp] theorem State.onDesk_evaluator (s : State) (f : DeskPort → DeskPort) : (s.onDesk f).evaluator = s.evaluator := rfl
@[simp] theorem State.onDesk_report (s : State) (f : DeskPort → DeskPort) : (s.onDesk f).report = s.report := rfl
@[simp] theorem State.onDesk_request (s : State) (f : DeskPort → DeskPort) : (s.onDesk f).request = s.request := rfl
@[simp] theorem State.onDesk_tables (s : State) (f : DeskPort → DeskPort) : (s.onDesk f).tables = s.tables := rfl
@[simp] theorem State.onDesk_desk (s : State) (f : DeskPort → DeskPort) : (s.onDesk f).desk = f s.desk := rfl
@[simp] theorem State.onDesk_clock (s : State) (f : DeskPort → DeskPort) : (s.onDesk f).clock = s.clock := rfl
@[simp] theorem State.onDesk_pending (s : State) (f : DeskPort → DeskPort) : (s.onDesk f).pending = s.pending := rfl
@[simp] theorem State.onDesk_active (s : State) (f : DeskPort → DeskPort) : (s.onDesk f).active? = s.active? := rfl
@[simp] theorem State.onDesk_now (s : State) (f : DeskPort → DeskPort) : (s.onDesk f).now = s.now := rfl

@[simp] theorem State.onTables_loop (s : State) (f : TableStore → TableStore) : (s.onTables f).loop = s.loop := rfl
@[simp] theorem State.onTables_filter (s : State) (f : TableStore → TableStore) : (s.onTables f).filter = s.filter := rfl
@[simp] theorem State.onTables_flasher (s : State) (f : TableStore → TableStore) : (s.onTables f).flasher = s.flasher := rfl
@[simp] theorem State.onTables_pairs (s : State) (f : TableStore → TableStore) : (s.onTables f).pairs = s.pairs := rfl
@[simp] theorem State.onTables_evaluator (s : State) (f : TableStore → TableStore) : (s.onTables f).evaluator = s.evaluator := rfl
@[simp] theorem State.onTables_report (s : State) (f : TableStore → TableStore) : (s.onTables f).report = s.report := rfl
@[simp] theorem State.onTables_request (s : State) (f : TableStore → TableStore) : (s.onTables f).request = s.request := rfl
@[simp] theorem State.onTables_tables (s : State) (f : TableStore → TableStore) : (s.onTables f).tables = f s.tables := rfl
@[simp] theorem State.onTables_desk (s : State) (f : TableStore → TableStore) : (s.onTables f).desk = s.desk := rfl
@[simp] theorem State.onTables_clock (s : State) (f : TableStore → TableStore) : (s.onTables f).clock = s.clock := rfl
@[simp] theorem State.onTables_pending (s : State) (f : TableStore → TableStore) : (s.onTables f).pending = s.pending := rfl
@[simp] theorem State.onTables_now (s : State) (f : TableStore → TableStore) : (s.onTables f).now = s.now := rfl

@[simp] theorem State.withConditions_loop (s : State) (c : Conditions) : (s.withConditions c).loop = s.loop := rfl
@[simp] theorem State.withConditions_filter (s : State) (c : Conditions) : (s.withConditions c).filter = s.filter := rfl
@[simp] theorem State.withConditions_flasher (s : State) (c : Conditions) : (s.withConditions c).flasher = s.flasher := rfl
@[simp] theorem State.withConditions_pairs (s : State) (c : Conditions) : (s.withConditions c).pairs = s.pairs := rfl
@[simp] theorem State.withConditions_evaluator (s : State) (c : Conditions) : (s.withConditions c).evaluator = { s.evaluator with conditions := c } := rfl
@[simp] theorem State.withConditions_report (s : State) (c : Conditions) : (s.withConditions c).report = s.report := rfl
@[simp] theorem State.withConditions_request (s : State) (c : Conditions) : (s.withConditions c).request = s.request := rfl
@[simp] theorem State.withConditions_tables (s : State) (c : Conditions) : (s.withConditions c).tables = s.tables := rfl
@[simp] theorem State.withConditions_desk (s : State) (c : Conditions) : (s.withConditions c).desk = s.desk := rfl
@[simp] theorem State.withConditions_clock (s : State) (c : Conditions) : (s.withConditions c).clock = s.clock := rfl
@[simp] theorem State.withConditions_pending (s : State) (c : Conditions) : (s.withConditions c).pending = s.pending := rfl
@[simp] theorem State.withConditions_active (s : State) (c : Conditions) : (s.withConditions c).active? = s.active? := rfl
@[simp] theorem State.withConditions_now (s : State) (c : Conditions) : (s.withConditions c).now = s.now := rfl

@[simp] theorem State.send_loop (s : State) (f : TxFrame) : (s.send f).loop = s.loop := rfl
@[simp] theorem State.send_filter (s : State) (f : TxFrame) : (s.send f).filter = s.filter := rfl
@[simp] theorem State.send_flasher (s : State) (f : TxFrame) : (s.send f).flasher = s.flasher := rfl
@[simp] theorem State.send_pairs (s : State) (f : TxFrame) : (s.send f).pairs = s.pairs := rfl
@[simp] theorem State.send_evaluator (s : State) (f : TxFrame) : (s.send f).evaluator = s.evaluator := rfl
@[simp] theorem State.send_report (s : State) (f : TxFrame) : (s.send f).report = s.report := rfl
@[simp] theorem State.send_request (s : State) (f : TxFrame) : (s.send f).request = s.request := rfl
@[simp] theorem State.send_tables (s : State) (f : TxFrame) : (s.send f).tables = s.tables := rfl
@[simp] theorem State.send_desk (s : State) (f : TxFrame) : (s.send f).desk = { s.desk with sendList := s.desk.sendList ++ [f] } := rfl
@[simp] theorem State.send_clock (s : State) (f : TxFrame) : (s.send f).clock = s.clock := rfl
@[simp] theorem State.send_pending (s : State) (f : TxFrame) : (s.send f).pending = s.pending := rfl
@[simp] theorem State.send_active (s : State) (f : TxFrame) : (s.send f).active? = s.active? := rfl
@[simp] theorem State.send_now (s : State) (f : TxFrame) : (s.send f).now = s.now := rfl

@[simp] theorem State.answer_loop (s : State) (x : Taken) (kind : Byte) (code : ReplyCode) (data : List Byte) : (s.answer x kind code data).loop = s.loop := rfl
@[simp] theorem State.answer_filter (s : State) (x : Taken) (kind : Byte) (code : ReplyCode) (data : List Byte) : (s.answer x kind code data).filter = s.filter := rfl
@[simp] theorem State.answer_flasher (s : State) (x : Taken) (kind : Byte) (code : ReplyCode) (data : List Byte) : (s.answer x kind code data).flasher = s.flasher := rfl
@[simp] theorem State.answer_pairs (s : State) (x : Taken) (kind : Byte) (code : ReplyCode) (data : List Byte) : (s.answer x kind code data).pairs = s.pairs := rfl
@[simp] theorem State.answer_evaluator (s : State) (x : Taken) (kind : Byte) (code : ReplyCode) (data : List Byte) : (s.answer x kind code data).evaluator = s.evaluator := rfl
@[simp] theorem State.answer_report (s : State) (x : Taken) (kind : Byte) (code : ReplyCode) (data : List Byte) : (s.answer x kind code data).report = s.report := rfl
@[simp] theorem State.answer_request (s : State) (x : Taken) (kind : Byte) (code : ReplyCode) (data : List Byte) : (s.answer x kind code data).request = s.request := rfl
@[simp] theorem State.answer_tables (s : State) (x : Taken) (kind : Byte) (code : ReplyCode) (data : List Byte) : (s.answer x kind code data).tables = s.tables := rfl
@[simp] theorem State.answer_desk (s : State) (x : Taken) (kind : Byte) (code : ReplyCode) (data : List Byte) : (s.answer x kind code data).desk = { s.desk with sendList := s.desk.sendList ++ [replyFrame x.source x.tag kind code data] } := rfl
@[simp] theorem State.answer_clock (s : State) (x : Taken) (kind : Byte) (code : ReplyCode) (data : List Byte) : (s.answer x kind code data).clock = s.clock := rfl
@[simp] theorem State.answer_pending (s : State) (x : Taken) (kind : Byte) (code : ReplyCode) (data : List Byte) : (s.answer x kind code data).pending = s.pending := rfl
@[simp] theorem State.answer_active (s : State) (x : Taken) (kind : Byte) (code : ReplyCode) (data : List Byte) : (s.answer x kind code data).active? = s.active? := rfl
@[simp] theorem State.answer_now (s : State) (x : Taken) (kind : Byte) (code : ReplyCode) (data : List Byte) : (s.answer x kind code data).now = s.now := rfl

@[simp] theorem State.refuse_loop (s : State) (x : Taken) (kind : Byte) (code : ReplyCode) : (s.refuse x kind code).loop = s.loop := rfl
@[simp] theorem State.refuse_filter (s : State) (x : Taken) (kind : Byte) (code : ReplyCode) : (s.refuse x kind code).filter = s.filter := rfl
@[simp] theorem State.refuse_flasher (s : State) (x : Taken) (kind : Byte) (code : ReplyCode) : (s.refuse x kind code).flasher = s.flasher := rfl
@[simp] theorem State.refuse_pairs (s : State) (x : Taken) (kind : Byte) (code : ReplyCode) : (s.refuse x kind code).pairs = s.pairs := rfl
@[simp] theorem State.refuse_evaluator (s : State) (x : Taken) (kind : Byte) (code : ReplyCode) : (s.refuse x kind code).evaluator = s.evaluator := rfl
@[simp] theorem State.refuse_report (s : State) (x : Taken) (kind : Byte) (code : ReplyCode) : (s.refuse x kind code).report = s.report := rfl
@[simp] theorem State.refuse_request (s : State) (x : Taken) (kind : Byte) (code : ReplyCode) : (s.refuse x kind code).request = s.request := rfl
@[simp] theorem State.refuse_tables (s : State) (x : Taken) (kind : Byte) (code : ReplyCode) : (s.refuse x kind code).tables = s.tables := rfl
@[simp] theorem State.refuse_desk (s : State) (x : Taken) (kind : Byte) (code : ReplyCode) : (s.refuse x kind code).desk = { s.desk with sendList := s.desk.sendList ++ [replyFrame x.source x.tag kind code []] } := rfl
@[simp] theorem State.refuse_clock (s : State) (x : Taken) (kind : Byte) (code : ReplyCode) : (s.refuse x kind code).clock = s.clock := rfl
@[simp] theorem State.refuse_pending (s : State) (x : Taken) (kind : Byte) (code : ReplyCode) : (s.refuse x kind code).pending = s.pending := rfl
@[simp] theorem State.refuse_active (s : State) (x : Taken) (kind : Byte) (code : ReplyCode) : (s.refuse x kind code).active? = s.active? := rfl
@[simp] theorem State.refuse_now (s : State) (x : Taken) (kind : Byte) (code : ReplyCode) : (s.refuse x kind code).now = s.now := rfl

@[simp] theorem State.takeReasons_loop (s : State) : (s.takeReasons).loop = s.loop := rfl
@[simp] theorem State.takeReasons_filter (s : State) : (s.takeReasons).filter = s.filter := rfl
@[simp] theorem State.takeReasons_flasher (s : State) : (s.takeReasons).flasher = s.flasher := rfl
@[simp] theorem State.takeReasons_pairs (s : State) : (s.takeReasons).pairs = s.pairs := rfl
@[simp] theorem State.takeReasons_evaluator (s : State) : (s.takeReasons).evaluator = s.evaluator := rfl
@[simp] theorem State.takeReasons_report (s : State) : (s.takeReasons).report = s.report := rfl
@[simp] theorem State.takeReasons_request (s : State) : (s.takeReasons).request = { s.request with reasons := s.reasonSet, authority := s.reasonSet.isEmpty } := rfl
@[simp] theorem State.takeReasons_tables (s : State) : (s.takeReasons).tables = s.tables := rfl
@[simp] theorem State.takeReasons_desk (s : State) : (s.takeReasons).desk = s.desk := rfl
@[simp] theorem State.takeReasons_clock (s : State) : (s.takeReasons).clock = s.clock := rfl
@[simp] theorem State.takeReasons_pending (s : State) : (s.takeReasons).pending = s.pending := rfl
@[simp] theorem State.takeReasons_active (s : State) : (s.takeReasons).active? = s.active? := rfl
@[simp] theorem State.takeReasons_now (s : State) : (s.takeReasons).now = s.now := rfl

@[simp] theorem Event.onState_st (e : Event) (f : State → State) : (e.onState f).st = f e.st := rfl
@[simp] theorem Event.onState_round (e : Event) (f : State → State) : (e.onState f).round = e.round := rfl
@[simp] theorem Event.onState_authorityStamp (e : Event) (f : State → State) : (e.onState f).authorityStamp = e.authorityStamp := rfl
@[simp] theorem Event.start_st (s : State) : (Event.start s).st = s := rfl
@[simp] theorem Event.start_round (s : State) : (Event.start s).round = [] := rfl
@[simp] theorem Event.start_authorityStamp (s : State) : (Event.start s).authorityStamp = none := rfl

end Sys2Proof.Machine
end

