-- ==== Sys2Proof/Laws/Events.lean ====
section
/-! SUPPORT. What the shared operations over a state and over an event leave as it was, field by field: the provers cite these in place
of unfolding a round. -/

namespace Sys2Proof.Machine

/-! A change record and the report unit (R105) -/

@[simp] theorem ReportUnit.takeChange_timeBase (r : ReportUnit) (limit : Nat) (m : Record) (t : Stamp) : (r.takeChange limit m t).timeBase = r.timeBase := by
  unfold ReportUnit.takeChange; split <;> (try split) <;> rfl
@[simp] theorem ReportUnit.takeChange_timeValid (r : ReportUnit) (limit : Nat) (m : Record) (t : Stamp) : (r.takeChange limit m t).timeValid = r.timeValid := by
  unfold ReportUnit.takeChange; split <;> (try split) <;> rfl
@[simp] theorem ReportUnit.takeChange_timer (r : ReportUnit) (limit : Nat) (m : Record) (t : Stamp) : (r.takeChange limit m t).timer = r.timer := by
  unfold ReportUnit.takeChange; split <;> (try split) <;> rfl
@[simp] theorem ReportUnit.takeChange_frameSequence (r : ReportUnit) (limit : Nat) (m : Record) (t : Stamp) : (r.takeChange limit m t).frameSequence = r.frameSequence := by
  unfold ReportUnit.takeChange; split <;> (try split) <;> rfl
@[simp] theorem ReportUnit.takeChange_slicePointer (r : ReportUnit) (limit : Nat) (m : Record) (t : Stamp) : (r.takeChange limit m t).slicePointer = r.slicePointer := by
  unfold ReportUnit.takeChange; split <;> (try split) <;> rfl
@[simp] theorem ReportUnit.takeChange_framesSent (r : ReportUnit) (limit : Nat) (m : Record) (t : Stamp) : (r.takeChange limit m t).framesSent = r.framesSent := by
  unfold ReportUnit.takeChange; split <;> (try split) <;> rfl
@[simp] theorem ReportUnit.takeChange_markersLost (r : ReportUnit) (limit : Nat) (m : Record) (t : Stamp) : (r.takeChange limit m t).markersLost = r.markersLost := by
  unfold ReportUnit.takeChange; split <;> (try split) <;> rfl
@[simp] theorem ReportUnit.takeChanges_timeBase (r : ReportUnit) (limit : Nat) (ms : List Record) : (r.takeChanges limit ms).timeBase = r.timeBase := by
  unfold ReportUnit.takeChanges
  induction ms generalizing r with
  | nil => rfl
  | cons m ms ih => simp [ih]
@[simp] theorem ReportUnit.takeChanges_timeValid (r : ReportUnit) (limit : Nat) (ms : List Record) : (r.takeChanges limit ms).timeValid = r.timeValid := by
  unfold ReportUnit.takeChanges
  induction ms generalizing r with
  | nil => rfl
  | cons m ms ih => simp [ih]
@[simp] theorem ReportUnit.takeChanges_timer (r : ReportUnit) (limit : Nat) (ms : List Record) : (r.takeChanges limit ms).timer = r.timer := by
  unfold ReportUnit.takeChanges
  induction ms generalizing r with
  | nil => rfl
  | cons m ms ih => simp [ih]
@[simp] theorem ReportUnit.takeChanges_frameSequence (r : ReportUnit) (limit : Nat) (ms : List Record) : (r.takeChanges limit ms).frameSequence = r.frameSequence := by
  unfold ReportUnit.takeChanges
  induction ms generalizing r with
  | nil => rfl
  | cons m ms ih => simp [ih]
@[simp] theorem ReportUnit.takeChanges_slicePointer (r : ReportUnit) (limit : Nat) (ms : List Record) : (r.takeChanges limit ms).slicePointer = r.slicePointer := by
  unfold ReportUnit.takeChanges
  induction ms generalizing r with
  | nil => rfl
  | cons m ms ih => simp [ih]
@[simp] theorem ReportUnit.takeChanges_framesSent (r : ReportUnit) (limit : Nat) (ms : List Record) : (r.takeChanges limit ms).framesSent = r.framesSent := by
  unfold ReportUnit.takeChanges
  induction ms generalizing r with
  | nil => rfl
  | cons m ms ih => simp [ih]
@[simp] theorem ReportUnit.takeChanges_markersLost (r : ReportUnit) (limit : Nat) (ms : List Record) : (r.takeChanges limit ms).markersLost = r.markersLost := by
  unfold ReportUnit.takeChanges
  induction ms generalizing r with
  | nil => rfl
  | cons m ms ih => simp [ih]
@[simp] theorem ReportUnit.offerMarker_timeBase (r : ReportUnit) (m : Record) : (r.offerMarker m).timeBase = r.timeBase := by
  unfold ReportUnit.offerMarker; split <;> rfl
@[simp] theorem ReportUnit.offerMarker_timeValid (r : ReportUnit) (m : Record) : (r.offerMarker m).timeValid = r.timeValid := by
  unfold ReportUnit.offerMarker; split <;> rfl
@[simp] theorem ReportUnit.offerMarker_timer (r : ReportUnit) (m : Record) : (r.offerMarker m).timer = r.timer := by
  unfold ReportUnit.offerMarker; split <;> rfl
@[simp] theorem ReportUnit.offerMarker_frameSequence (r : ReportUnit) (m : Record) : (r.offerMarker m).frameSequence = r.frameSequence := by
  unfold ReportUnit.offerMarker; split <;> rfl
@[simp] theorem ReportUnit.offerMarker_slicePointer (r : ReportUnit) (m : Record) : (r.offerMarker m).slicePointer = r.slicePointer := by
  unfold ReportUnit.offerMarker; split <;> rfl
@[simp] theorem ReportUnit.offerMarker_framesSent (r : ReportUnit) (m : Record) : (r.offerMarker m).framesSent = r.framesSent := by
  unfold ReportUnit.offerMarker; split <;> rfl
@[simp] theorem ReportUnit.offerMarker_queueState (r : ReportUnit) (m : Record) : (r.offerMarker m).queueState = r.queueState := by
  unfold ReportUnit.offerMarker; split <;> rfl
@[simp] theorem ReportUnit.offerMarker_lostCount (r : ReportUnit) (m : Record) : (r.offerMarker m).lostCount = r.lostCount := by
  unfold ReportUnit.offerMarker; split <;> rfl
@[simp] theorem ReportUnit.offerMarker_firstLost (r : ReportUnit) (m : Record) : (r.offerMarker m).firstLost = r.firstLost := by
  unfold ReportUnit.offerMarker; split <;> rfl
@[simp] theorem ReportUnit.offerMarker_lastLost (r : ReportUnit) (m : Record) : (r.offerMarker m).lastLost = r.lastLost := by
  unfold ReportUnit.offerMarker; split <;> rfl
@[simp] theorem ReportUnit.offerMarker_changesLost (r : ReportUnit) (m : Record) : (r.offerMarker m).changesLost = r.changesLost := by
  unfold ReportUnit.offerMarker; split <;> rfl

/-! A round (R89) -/

@[simp] theorem State.runRound_loop (s : State) (round : List TermChange) : (s.runRound round).loop = s.loop := by
  unfold State.runRound; split <;> rfl
@[simp] theorem State.runRound_filter (s : State) (round : List TermChange) : (s.runRound round).filter = s.filter := by
  unfold State.runRound; split <;> rfl
@[simp] theorem State.runRound_flasher (s : State) (round : List TermChange) : (s.runRound round).flasher = s.flasher := by
  unfold State.runRound; split <;> rfl
@[simp] theorem State.runRound_pairs (s : State) (round : List TermChange) : (s.runRound round).pairs = s.pairs := by
  unfold State.runRound; split <;> rfl
@[simp] theorem State.runRound_request (s : State) (round : List TermChange) : (s.runRound round).request = s.request := by
  unfold State.runRound; split <;> rfl
@[simp] theorem State.runRound_tables (s : State) (round : List TermChange) : (s.runRound round).tables = s.tables := by
  unfold State.runRound; split <;> rfl
@[simp] theorem State.runRound_desk (s : State) (round : List TermChange) : (s.runRound round).desk = s.desk := by
  unfold State.runRound; split <;> rfl
@[simp] theorem State.runRound_clock (s : State) (round : List TermChange) : (s.runRound round).clock = s.clock := by
  unfold State.runRound; split <;> rfl
@[simp] theorem State.runRound_pending (s : State) (round : List TermChange) : (s.runRound round).pending = s.pending := by
  unfold State.runRound; split <;> rfl
@[simp] theorem State.runRound_active (s : State) (round : List TermChange) : (s.runRound round).active? = s.active? := by
  simp [State.active?]
@[simp] theorem State.runRound_conditions (s : State) (round : List TermChange) : (s.runRound round).evaluator.conditions = s.evaluator.conditions := by
  unfold State.runRound; split <;> rfl
@[simp] theorem State.runRound_report_timeBase (s : State) (round : List TermChange) : (s.runRound round).report.timeBase = s.report.timeBase := by
  unfold State.runRound; split <;> simp
@[simp] theorem State.runRound_report_timeValid (s : State) (round : List TermChange) : (s.runRound round).report.timeValid = s.report.timeValid := by
  unfold State.runRound; split <;> simp
@[simp] theorem State.runRound_report_timer (s : State) (round : List TermChange) : (s.runRound round).report.timer = s.report.timer := by
  unfold State.runRound; split <;> simp
@[simp] theorem State.runRound_report_frameSequence (s : State) (round : List TermChange) : (s.runRound round).report.frameSequence = s.report.frameSequence := by
  unfold State.runRound; split <;> simp
@[simp] theorem State.runRound_report_slicePointer (s : State) (round : List TermChange) : (s.runRound round).report.slicePointer = s.report.slicePointer := by
  unfold State.runRound; split <;> simp
@[simp] theorem State.runRound_report_framesSent (s : State) (round : List TermChange) : (s.runRound round).report.framesSent = s.report.framesSent := by
  unfold State.runRound; split <;> simp
@[simp] theorem State.runRound_report_markersLost (s : State) (round : List TermChange) : (s.runRound round).report.markersLost = s.report.markersLost := by
  unfold State.runRound; split <;> simp

/-! The owner of a condition hands it on (R88) -/

@[simp] theorem Event.setCondition_loop (e : Event) (c : Nat) (v : Bool) (stamp : Stamp) : ((e.setCondition c v stamp).st).loop = e.st.loop := by
  unfold Event.setCondition; split <;> rfl
@[simp] theorem Event.setCondition_filter (e : Event) (c : Nat) (v : Bool) (stamp : Stamp) : ((e.setCondition c v stamp).st).filter = e.st.filter := by
  unfold Event.setCondition; split <;> rfl
@[simp] theorem Event.setCondition_flasher (e : Event) (c : Nat) (v : Bool) (stamp : Stamp) : ((e.setCondition c v stamp).st).flasher = e.st.flasher := by
  unfold Event.setCondition; split <;> rfl
@[simp] theorem Event.setCondition_pairs (e : Event) (c : Nat) (v : Bool) (stamp : Stamp) : ((e.setCondition c v stamp).st).pairs = e.st.pairs := by
  unfold Event.setCondition; split <;> rfl
@[simp] theorem Event.setCondition_report (e : Event) (c : Nat) (v : Bool) (stamp : Stamp) : ((e.setCondition c v stamp).st).report = e.st.report := by
  unfold Event.setCondition; split <;> rfl
@[simp] theorem Event.setCondition_request (e : Event) (c : Nat) (v : Bool) (stamp : Stamp) : ((e.setCondition c v stamp).st).request = e.st.request := by
  unfold Event.setCondition; split <;> rfl
@[simp] theorem Event.setCondition_tables (e : Event) (c : Nat) (v : Bool) (stamp : Stamp) : ((e.setCondition c v stamp).st).tables = e.st.tables := by
  unfold Event.setCondition; split <;> rfl
@[simp] theorem Event.setCondition_desk (e : Event) (c : Nat) (v : Bool) (stamp : Stamp) : ((e.setCondition c v stamp).st).desk = e.st.desk := by
  unfold Event.setCondition; split <;> rfl
@[simp] theorem Event.setCondition_clock (e : Event) (c : Nat) (v : Bool) (stamp : Stamp) : ((e.setCondition c v stamp).st).clock = e.st.clock := by
  unfold Event.setCondition; split <;> rfl
@[simp] theorem Event.setCondition_pending (e : Event) (c : Nat) (v : Bool) (stamp : Stamp) : ((e.setCondition c v stamp).st).pending = e.st.pending := by
  unfold Event.setCondition; split <;> rfl
@[simp] theorem Event.setCondition_active (e : Event) (c : Nat) (v : Bool) (stamp : Stamp) : ((e.setCondition c v stamp).st).active? = e.st.active? := by
  simp [State.active?]
@[simp] theorem Event.setCondition_objects (e : Event) (c : Nat) (v : Bool) (stamp : Stamp) : (e.setCondition c v stamp).st.evaluator.objects = e.st.evaluator.objects := by
  unfold Event.setCondition; split <;> rfl
@[simp] theorem Event.setCondition_authorityStamp (e : Event) (c : Nat) (v : Bool) (stamp : Stamp) : (e.setCondition c v stamp).authorityStamp = e.authorityStamp := by
  unfold Event.setCondition; split <;> rfl

/-! The entry to OVERRUN (R108) -/

@[simp] theorem State.afterOverrun_loop (before s : State) : (before.afterOverrun s).loop = s.loop := by
  unfold State.afterOverrun; split <;> simp
@[simp] theorem State.afterOverrun_filter (before s : State) : (before.afterOverrun s).filter = s.filter := by
  unfold State.afterOverrun; split <;> simp
@[simp] theorem State.afterOverrun_flasher (before s : State) : (before.afterOverrun s).flasher = s.flasher := by
  unfold State.afterOverrun; split <;> simp
@[simp] theorem State.afterOverrun_pairs (before s : State) : (before.afterOverrun s).pairs = s.pairs := by
  unfold State.afterOverrun; split <;> simp
@[simp] theorem State.afterOverrun_request (before s : State) : (before.afterOverrun s).request = s.request := by
  unfold State.afterOverrun; split <;> simp
@[simp] theorem State.afterOverrun_tables (before s : State) : (before.afterOverrun s).tables = s.tables := by
  unfold State.afterOverrun; split <;> simp
@[simp] theorem State.afterOverrun_desk (before s : State) : (before.afterOverrun s).desk = s.desk := by
  unfold State.afterOverrun; split <;> simp
@[simp] theorem State.afterOverrun_clock (before s : State) : (before.afterOverrun s).clock = s.clock := by
  unfold State.afterOverrun; split <;> simp
@[simp] theorem State.afterOverrun_pending (before s : State) : (before.afterOverrun s).pending = s.pending := by
  unfold State.afterOverrun; split <;> simp
@[simp] theorem State.afterOverrun_active (before s : State) : (before.afterOverrun s).active? = s.active? := by
  simp [State.active?]
@[simp] theorem State.afterOverrun_report_timeBase (before s : State) : (before.afterOverrun s).report.timeBase = s.report.timeBase := by
  unfold State.afterOverrun; split <;> simp
@[simp] theorem State.afterOverrun_report_timeValid (before s : State) : (before.afterOverrun s).report.timeValid = s.report.timeValid := by
  unfold State.afterOverrun; split <;> simp
@[simp] theorem State.afterOverrun_report_timer (before s : State) : (before.afterOverrun s).report.timer = s.report.timer := by
  unfold State.afterOverrun; split <;> simp
@[simp] theorem State.afterOverrun_report_frameSequence (before s : State) : (before.afterOverrun s).report.frameSequence = s.report.frameSequence := by
  unfold State.afterOverrun; split <;> simp
@[simp] theorem State.afterOverrun_report_slicePointer (before s : State) : (before.afterOverrun s).report.slicePointer = s.report.slicePointer := by
  unfold State.afterOverrun; split <;> simp
@[simp] theorem State.afterOverrun_report_framesSent (before s : State) : (before.afterOverrun s).report.framesSent = s.report.framesSent := by
  unfold State.afterOverrun; split <;> simp
@[simp] theorem State.afterOverrun_report_markersLost (before s : State) : (before.afterOverrun s).report.markersLost = s.report.markersLost := by
  unfold State.afterOverrun; split <;> simp

/-! A round with what follows it -/

@[simp] theorem State.finishRound_loop (s : State) (round : List TermChange) : (s.finishRound round).loop = s.loop := by
  simp [State.finishRound]
@[simp] theorem State.finishRound_filter (s : State) (round : List TermChange) : (s.finishRound round).filter = s.filter := by
  simp [State.finishRound]
@[simp] theorem State.finishRound_flasher (s : State) (round : List TermChange) : (s.finishRound round).flasher = s.flasher := by
  simp [State.finishRound]
@[simp] theorem State.finishRound_pairs (s : State) (round : List TermChange) : (s.finishRound round).pairs = s.pairs := by
  simp [State.finishRound]
@[simp] theorem State.finishRound_request (s : State) (round : List TermChange) : (s.finishRound round).request = s.request := by
  simp [State.finishRound]
@[simp] theorem State.finishRound_tables (s : State) (round : List TermChange) : (s.finishRound round).tables = s.tables := by
  simp [State.finishRound]
@[simp] theorem State.finishRound_desk (s : State) (round : List TermChange) : (s.finishRound round).desk = s.desk := by
  simp [State.finishRound]
@[simp] theorem State.finishRound_clock (s : State) (round : List TermChange) : (s.finishRound round).clock = s.clock := by
  simp [State.finishRound]
@[simp] theorem State.finishRound_pending (s : State) (round : List TermChange) : (s.finishRound round).pending = s.pending := by
  simp [State.finishRound]
@[simp] theorem State.finishRound_active (s : State) (round : List TermChange) : (s.finishRound round).active? = s.active? := by
  simp [State.active?]
@[simp] theorem State.finishRound_report_timeBase (s : State) (round : List TermChange) : (s.finishRound round).report.timeBase = s.report.timeBase := by
  simp [State.finishRound]
@[simp] theorem State.finishRound_report_timeValid (s : State) (round : List TermChange) : (s.finishRound round).report.timeValid = s.report.timeValid := by
  simp [State.finishRound]
@[simp] theorem State.finishRound_report_timer (s : State) (round : List TermChange) : (s.finishRound round).report.timer = s.report.timer := by
  simp [State.finishRound]
@[simp] theorem State.finishRound_report_frameSequence (s : State) (round : List TermChange) : (s.finishRound round).report.frameSequence = s.report.frameSequence := by
  simp [State.finishRound]
@[simp] theorem State.finishRound_report_slicePointer (s : State) (round : List TermChange) : (s.finishRound round).report.slicePointer = s.report.slicePointer := by
  simp [State.finishRound]
@[simp] theorem State.finishRound_report_framesSent (s : State) (round : List TermChange) : (s.finishRound round).report.framesSent = s.report.framesSent := by
  simp [State.finishRound]
@[simp] theorem State.finishRound_report_markersLost (s : State) (round : List TermChange) : (s.finishRound round).report.markersLost = s.report.markersLost := by
  simp [State.finishRound]

/-! The end of an event -/

@[simp] theorem Event.close_loop (e : Event) : (e.close).loop = e.st.loop := by
  unfold Event.close; split <;> simp
@[simp] theorem Event.close_filter (e : Event) : (e.close).filter = e.st.filter := by
  unfold Event.close; split <;> simp
@[simp] theorem Event.close_flasher (e : Event) : (e.close).flasher = e.st.flasher := by
  unfold Event.close; split <;> simp
@[simp] theorem Event.close_pairs (e : Event) : (e.close).pairs = e.st.pairs := by
  unfold Event.close; split <;> simp
@[simp] theorem Event.close_request (e : Event) : (e.close).request = e.st.request := by
  unfold Event.close; split <;> simp
@[simp] theorem Event.close_tables (e : Event) : (e.close).tables = e.st.tables := by
  unfold Event.close; split <;> simp
@[simp] theorem Event.close_desk (e : Event) : (e.close).desk = e.st.desk := by
  unfold Event.close; split <;> simp
@[simp] theorem Event.close_clock (e : Event) : (e.close).clock = e.st.clock := by
  unfold Event.close; split <;> simp
@[simp] theorem Event.close_pending (e : Event) : (e.close).pending = e.st.pending := by
  unfold Event.close; split <;> simp
@[simp] theorem Event.close_active (e : Event) : (e.close).active? = e.st.active? := by
  simp [State.active?]
@[simp] theorem Event.close_report_timeBase (e : Event) : (e.close).report.timeBase = e.st.report.timeBase := by
  unfold Event.close; split <;> simp
@[simp] theorem Event.close_report_timeValid (e : Event) : (e.close).report.timeValid = e.st.report.timeValid := by
  unfold Event.close; split <;> simp
@[simp] theorem Event.close_report_timer (e : Event) : (e.close).report.timer = e.st.report.timer := by
  unfold Event.close; split <;> simp
@[simp] theorem Event.close_report_frameSequence (e : Event) : (e.close).report.frameSequence = e.st.report.frameSequence := by
  unfold Event.close; split <;> simp
@[simp] theorem Event.close_report_slicePointer (e : Event) : (e.close).report.slicePointer = e.st.report.slicePointer := by
  unfold Event.close; split <;> simp
@[simp] theorem Event.close_report_framesSent (e : Event) : (e.close).report.framesSent = e.st.report.framesSent := by
  unfold Event.close; split <;> simp
@[simp] theorem Event.close_report_markersLost (e : Event) : (e.close).report.markersLost = e.st.report.markersLost := by
  unfold Event.close; split <;> simp

/-! The image built anew (R97) -/

@[simp] theorem State.resetImage_loop (s : State) (b : Bank) (stamp : Stamp) (causeOf : Source → Cause) : (s.resetImage b stamp causeOf).loop = s.loop := by
  simp [State.resetImage]
@[simp] theorem State.resetImage_filter (s : State) (b : Bank) (stamp : Stamp) (causeOf : Source → Cause) : (s.resetImage b stamp causeOf).filter = s.filter := by
  simp [State.resetImage]
@[simp] theorem State.resetImage_flasher (s : State) (b : Bank) (stamp : Stamp) (causeOf : Source → Cause) : (s.resetImage b stamp causeOf).flasher = s.flasher := by
  simp [State.resetImage]
@[simp] theorem State.resetImage_pairs (s : State) (b : Bank) (stamp : Stamp) (causeOf : Source → Cause) : (s.resetImage b stamp causeOf).pairs = s.pairs := by
  simp [State.resetImage]
@[simp] theorem State.resetImage_request (s : State) (b : Bank) (stamp : Stamp) (causeOf : Source → Cause) : (s.resetImage b stamp causeOf).request = s.request := by
  simp [State.resetImage]
@[simp] theorem State.resetImage_tables (s : State) (b : Bank) (stamp : Stamp) (causeOf : Source → Cause) : (s.resetImage b stamp causeOf).tables = s.tables := by
  simp [State.resetImage]
@[simp] theorem State.resetImage_desk (s : State) (b : Bank) (stamp : Stamp) (causeOf : Source → Cause) : (s.resetImage b stamp causeOf).desk = s.desk := by
  simp [State.resetImage]
@[simp] theorem State.resetImage_clock (s : State) (b : Bank) (stamp : Stamp) (causeOf : Source → Cause) : (s.resetImage b stamp causeOf).clock = s.clock := by
  simp [State.resetImage]
@[simp] theorem State.resetImage_pending (s : State) (b : Bank) (stamp : Stamp) (causeOf : Source → Cause) : (s.resetImage b stamp causeOf).pending = s.pending := by
  simp [State.resetImage]
@[simp] theorem State.resetImage_active (s : State) (b : Bank) (stamp : Stamp) (causeOf : Source → Cause) : (s.resetImage b stamp causeOf).active? = s.active? := by
  simp [State.active?]
@[simp] theorem State.resetImage_report_timeBase (s : State) (b : Bank) (stamp : Stamp) (causeOf : Source → Cause) : (s.resetImage b stamp causeOf).report.timeBase = s.report.timeBase := by
  simp [State.resetImage]
@[simp] theorem State.resetImage_report_timeValid (s : State) (b : Bank) (stamp : Stamp) (causeOf : Source → Cause) : (s.resetImage b stamp causeOf).report.timeValid = s.report.timeValid := by
  simp [State.resetImage]
@[simp] theorem State.resetImage_report_timer (s : State) (b : Bank) (stamp : Stamp) (causeOf : Source → Cause) : (s.resetImage b stamp causeOf).report.timer = s.report.timer := by
  simp [State.resetImage]
@[simp] theorem State.resetImage_report_frameSequence (s : State) (b : Bank) (stamp : Stamp) (causeOf : Source → Cause) : (s.resetImage b stamp causeOf).report.frameSequence = s.report.frameSequence := by
  simp [State.resetImage]
@[simp] theorem State.resetImage_report_slicePointer (s : State) (b : Bank) (stamp : Stamp) (causeOf : Source → Cause) : (s.resetImage b stamp causeOf).report.slicePointer = s.report.slicePointer := by
  simp [State.resetImage]
@[simp] theorem State.resetImage_report_framesSent (s : State) (b : Bank) (stamp : Stamp) (causeOf : Source → Cause) : (s.resetImage b stamp causeOf).report.framesSent = s.report.framesSent := by
  simp [State.resetImage]
@[simp] theorem State.resetImage_report_markersLost (s : State) (b : Bank) (stamp : Stamp) (causeOf : Source → Cause) : (s.resetImage b stamp causeOf).report.markersLost = s.report.markersLost := by
  simp [State.resetImage]

/-! Authority judged again (R118) -/

@[simp] theorem Event.judgeAuthority_loop (e : Event) (stamp : Stamp) : ((e.judgeAuthority stamp).st).loop = e.st.loop := by
  unfold Event.judgeAuthority; dsimp only; split
  · rfl
  · split <;> split <;> simp [State.withConditions, State.onRequest]
@[simp] theorem Event.judgeAuthority_filter (e : Event) (stamp : Stamp) : ((e.judgeAuthority stamp).st).filter = e.st.filter := by
  unfold Event.judgeAuthority; dsimp only; split
  · rfl
  · split <;> split <;> simp [State.withConditions, State.onRequest]
@[simp] theorem Event.judgeAuthority_flasher (e : Event) (stamp : Stamp) : ((e.judgeAuthority stamp).st).flasher = e.st.flasher := by
  unfold Event.judgeAuthority; dsimp only; split
  · rfl
  · split <;> split <;> simp [State.withConditions, State.onRequest]
@[simp] theorem Event.judgeAuthority_pairs (e : Event) (stamp : Stamp) : ((e.judgeAuthority stamp).st).pairs = e.st.pairs := by
  unfold Event.judgeAuthority; dsimp only; split
  · rfl
  · split <;> split <;> simp [State.withConditions, State.onRequest]
@[simp] theorem Event.judgeAuthority_report (e : Event) (stamp : Stamp) : ((e.judgeAuthority stamp).st).report = e.st.report := by
  unfold Event.judgeAuthority; dsimp only; split
  · rfl
  · split <;> split <;> simp [State.withConditions, State.onRequest]
@[simp] theorem Event.judgeAuthority_tables (e : Event) (stamp : Stamp) : ((e.judgeAuthority stamp).st).tables = e.st.tables := by
  unfold Event.judgeAuthority; dsimp only; split
  · rfl
  · split <;> split <;> simp [State.withConditions, State.onRequest]
@[simp] theorem Event.judgeAuthority_desk (e : Event) (stamp : Stamp) : ((e.judgeAuthority stamp).st).desk = e.st.desk := by
  unfold Event.judgeAuthority; dsimp only; split
  · rfl
  · split <;> split <;> simp [State.withConditions, State.onRequest]
@[simp] theorem Event.judgeAuthority_clock (e : Event) (stamp : Stamp) : ((e.judgeAuthority stamp).st).clock = e.st.clock := by
  unfold Event.judgeAuthority; dsimp only; split
  · rfl
  · split <;> split <;> simp [State.withConditions, State.onRequest]
@[simp] theorem Event.judgeAuthority_pending (e : Event) (stamp : Stamp) : ((e.judgeAuthority stamp).st).pending = e.st.pending := by
  unfold Event.judgeAuthority; dsimp only; split
  · rfl
  · split <;> split <;> simp [State.withConditions, State.onRequest]
@[simp] theorem Event.judgeAuthority_active (e : Event) (stamp : Stamp) : ((e.judgeAuthority stamp).st).active? = e.st.active? := by
  simp [State.active?]

/-! LOOP_RUNNING judged again (R86) -/

@[simp] theorem Event.judgeLoop_loop (e : Event) (stamp : Stamp) : ((e.judgeLoop stamp).st).loop = e.st.loop := by
  simp [Event.judgeLoop]
@[simp] theorem Event.judgeLoop_filter (e : Event) (stamp : Stamp) : ((e.judgeLoop stamp).st).filter = e.st.filter := by
  simp [Event.judgeLoop]
@[simp] theorem Event.judgeLoop_flasher (e : Event) (stamp : Stamp) : ((e.judgeLoop stamp).st).flasher = e.st.flasher := by
  simp [Event.judgeLoop]
@[simp] theorem Event.judgeLoop_pairs (e : Event) (stamp : Stamp) : ((e.judgeLoop stamp).st).pairs = e.st.pairs := by
  simp [Event.judgeLoop]
@[simp] theorem Event.judgeLoop_report (e : Event) (stamp : Stamp) : ((e.judgeLoop stamp).st).report = e.st.report := by
  simp [Event.judgeLoop]
@[simp] theorem Event.judgeLoop_request (e : Event) (stamp : Stamp) : ((e.judgeLoop stamp).st).request = e.st.request := by
  simp [Event.judgeLoop]
@[simp] theorem Event.judgeLoop_tables (e : Event) (stamp : Stamp) : ((e.judgeLoop stamp).st).tables = e.st.tables := by
  simp [Event.judgeLoop]
@[simp] theorem Event.judgeLoop_desk (e : Event) (stamp : Stamp) : ((e.judgeLoop stamp).st).desk = e.st.desk := by
  simp [Event.judgeLoop]
@[simp] theorem Event.judgeLoop_clock (e : Event) (stamp : Stamp) : ((e.judgeLoop stamp).st).clock = e.st.clock := by
  simp [Event.judgeLoop]
@[simp] theorem Event.judgeLoop_pending (e : Event) (stamp : Stamp) : ((e.judgeLoop stamp).st).pending = e.st.pending := by
  simp [Event.judgeLoop]
@[simp] theorem Event.judgeLoop_active (e : Event) (stamp : Stamp) : ((e.judgeLoop stamp).st).active? = e.st.active? := by
  simp [State.active?]

/-! CARDS_HEALTHY judged again (R87) -/

@[simp] theorem Event.judgeCards_loop (e : Event) (stamp : Stamp) : ((e.judgeCards stamp).st).loop = e.st.loop := by
  simp [Event.judgeCards]
@[simp] theorem Event.judgeCards_filter (e : Event) (stamp : Stamp) : ((e.judgeCards stamp).st).filter = e.st.filter := by
  simp [Event.judgeCards]
@[simp] theorem Event.judgeCards_flasher (e : Event) (stamp : Stamp) : ((e.judgeCards stamp).st).flasher = e.st.flasher := by
  simp [Event.judgeCards]
@[simp] theorem Event.judgeCards_pairs (e : Event) (stamp : Stamp) : ((e.judgeCards stamp).st).pairs = e.st.pairs := by
  simp [Event.judgeCards]
@[simp] theorem Event.judgeCards_report (e : Event) (stamp : Stamp) : ((e.judgeCards stamp).st).report = e.st.report := by
  simp [Event.judgeCards]
@[simp] theorem Event.judgeCards_request (e : Event) (stamp : Stamp) : ((e.judgeCards stamp).st).request = e.st.request := by
  simp [Event.judgeCards]
@[simp] theorem Event.judgeCards_tables (e : Event) (stamp : Stamp) : ((e.judgeCards stamp).st).tables = e.st.tables := by
  simp [Event.judgeCards]
@[simp] theorem Event.judgeCards_desk (e : Event) (stamp : Stamp) : ((e.judgeCards stamp).st).desk = e.st.desk := by
  simp [Event.judgeCards]
@[simp] theorem Event.judgeCards_clock (e : Event) (stamp : Stamp) : ((e.judgeCards stamp).st).clock = e.st.clock := by
  simp [Event.judgeCards]
@[simp] theorem Event.judgeCards_pending (e : Event) (stamp : Stamp) : ((e.judgeCards stamp).st).pending = e.st.pending := by
  simp [Event.judgeCards]
@[simp] theorem Event.judgeCards_active (e : Event) (stamp : Stamp) : ((e.judgeCards stamp).st).active? = e.st.active? := by
  simp [State.active?]

/-! FLASHER_OK judged again (R67) -/

@[simp] theorem Event.judgeFlasher_loop (e : Event) (stamp : Stamp) : ((e.judgeFlasher stamp).st).loop = e.st.loop := by
  simp [Event.judgeFlasher]
@[simp] theorem Event.judgeFlasher_filter (e : Event) (stamp : Stamp) : ((e.judgeFlasher stamp).st).filter = e.st.filter := by
  simp [Event.judgeFlasher]
@[simp] theorem Event.judgeFlasher_flasher (e : Event) (stamp : Stamp) : ((e.judgeFlasher stamp).st).flasher = e.st.flasher := by
  simp [Event.judgeFlasher]
@[simp] theorem Event.judgeFlasher_pairs (e : Event) (stamp : Stamp) : ((e.judgeFlasher stamp).st).pairs = e.st.pairs := by
  simp [Event.judgeFlasher]
@[simp] theorem Event.judgeFlasher_report (e : Event) (stamp : Stamp) : ((e.judgeFlasher stamp).st).report = e.st.report := by
  simp [Event.judgeFlasher]
@[simp] theorem Event.judgeFlasher_request (e : Event) (stamp : Stamp) : ((e.judgeFlasher stamp).st).request = e.st.request := by
  simp [Event.judgeFlasher]
@[simp] theorem Event.judgeFlasher_tables (e : Event) (stamp : Stamp) : ((e.judgeFlasher stamp).st).tables = e.st.tables := by
  simp [Event.judgeFlasher]
@[simp] theorem Event.judgeFlasher_desk (e : Event) (stamp : Stamp) : ((e.judgeFlasher stamp).st).desk = e.st.desk := by
  simp [Event.judgeFlasher]
@[simp] theorem Event.judgeFlasher_clock (e : Event) (stamp : Stamp) : ((e.judgeFlasher stamp).st).clock = e.st.clock := by
  simp [Event.judgeFlasher]
@[simp] theorem Event.judgeFlasher_pending (e : Event) (stamp : Stamp) : ((e.judgeFlasher stamp).st).pending = e.st.pending := by
  simp [Event.judgeFlasher]
@[simp] theorem Event.judgeFlasher_active (e : Event) (stamp : Stamp) : ((e.judgeFlasher stamp).st).active? = e.st.active? := by
  simp [State.active?]

/-! OUTPUTS_HEALTHY judged again (section 6.2) -/

@[simp] theorem Event.judgeOutputs_loop (e : Event) (stamp : Stamp) : ((e.judgeOutputs stamp).st).loop = e.st.loop := by
  simp [Event.judgeOutputs]
@[simp] theorem Event.judgeOutputs_filter (e : Event) (stamp : Stamp) : ((e.judgeOutputs stamp).st).filter = e.st.filter := by
  simp [Event.judgeOutputs]
@[simp] theorem Event.judgeOutputs_flasher (e : Event) (stamp : Stamp) : ((e.judgeOutputs stamp).st).flasher = e.st.flasher := by
  simp [Event.judgeOutputs]
@[simp] theorem Event.judgeOutputs_pairs (e : Event) (stamp : Stamp) : ((e.judgeOutputs stamp).st).pairs = e.st.pairs := by
  simp [Event.judgeOutputs]
@[simp] theorem Event.judgeOutputs_report (e : Event) (stamp : Stamp) : ((e.judgeOutputs stamp).st).report = e.st.report := by
  simp [Event.judgeOutputs]
@[simp] theorem Event.judgeOutputs_request (e : Event) (stamp : Stamp) : ((e.judgeOutputs stamp).st).request = e.st.request := by
  simp [Event.judgeOutputs]
@[simp] theorem Event.judgeOutputs_tables (e : Event) (stamp : Stamp) : ((e.judgeOutputs stamp).st).tables = e.st.tables := by
  simp [Event.judgeOutputs]
@[simp] theorem Event.judgeOutputs_desk (e : Event) (stamp : Stamp) : ((e.judgeOutputs stamp).st).desk = e.st.desk := by
  simp [Event.judgeOutputs]
@[simp] theorem Event.judgeOutputs_clock (e : Event) (stamp : Stamp) : ((e.judgeOutputs stamp).st).clock = e.st.clock := by
  simp [Event.judgeOutputs]
@[simp] theorem Event.judgeOutputs_pending (e : Event) (stamp : Stamp) : ((e.judgeOutputs stamp).st).pending = e.st.pending := by
  simp [Event.judgeOutputs]
@[simp] theorem Event.judgeOutputs_active (e : Event) (stamp : Stamp) : ((e.judgeOutputs stamp).st).active? = e.st.active? := by
  simp [State.active?]

/-! All conditions of a loop event -/

@[simp] theorem Event.judgeAll_loop (e : Event) (stamp : Stamp) : ((e.judgeAll stamp).st).loop = e.st.loop := by
  simp [Event.judgeAll]
@[simp] theorem Event.judgeAll_filter (e : Event) (stamp : Stamp) : ((e.judgeAll stamp).st).filter = e.st.filter := by
  simp [Event.judgeAll]
@[simp] theorem Event.judgeAll_flasher (e : Event) (stamp : Stamp) : ((e.judgeAll stamp).st).flasher = e.st.flasher := by
  simp [Event.judgeAll]
@[simp] theorem Event.judgeAll_pairs (e : Event) (stamp : Stamp) : ((e.judgeAll stamp).st).pairs = e.st.pairs := by
  simp [Event.judgeAll]
@[simp] theorem Event.judgeAll_report (e : Event) (stamp : Stamp) : ((e.judgeAll stamp).st).report = e.st.report := by
  simp [Event.judgeAll]
@[simp] theorem Event.judgeAll_tables (e : Event) (stamp : Stamp) : ((e.judgeAll stamp).st).tables = e.st.tables := by
  simp [Event.judgeAll]
@[simp] theorem Event.judgeAll_desk (e : Event) (stamp : Stamp) : ((e.judgeAll stamp).st).desk = e.st.desk := by
  simp [Event.judgeAll]
@[simp] theorem Event.judgeAll_clock (e : Event) (stamp : Stamp) : ((e.judgeAll stamp).st).clock = e.st.clock := by
  simp [Event.judgeAll]
@[simp] theorem Event.judgeAll_pending (e : Event) (stamp : Stamp) : ((e.judgeAll stamp).st).pending = e.st.pending := by
  simp [Event.judgeAll]
@[simp] theorem Event.judgeAll_active (e : Event) (stamp : Stamp) : ((e.judgeAll stamp).st).active? = e.st.active? := by
  simp [State.active?]

/-! A notice and the proofs (R131) -/

@[simp] theorem State.takeProofNotice_loop (s : State) (src : Source) (value : Option Nat) (quality : Quality) (stamp : Stamp) : (s.takeProofNotice src value quality stamp).loop = s.loop := by
  unfold State.takeProofNotice; split <;> rfl
@[simp] theorem State.takeProofNotice_filter (s : State) (src : Source) (value : Option Nat) (quality : Quality) (stamp : Stamp) : (s.takeProofNotice src value quality stamp).filter = s.filter := by
  unfold State.takeProofNotice; split <;> rfl
@[simp] theorem State.takeProofNotice_flasher (s : State) (src : Source) (value : Option Nat) (quality : Quality) (stamp : Stamp) : (s.takeProofNotice src value quality stamp).flasher = s.flasher := by
  unfold State.takeProofNotice; split <;> rfl
@[simp] theorem State.takeProofNotice_pairs (s : State) (src : Source) (value : Option Nat) (quality : Quality) (stamp : Stamp) : (s.takeProofNotice src value quality stamp).pairs = s.pairs := by
  unfold State.takeProofNotice; split <;> rfl
@[simp] theorem State.takeProofNotice_evaluator (s : State) (src : Source) (value : Option Nat) (quality : Quality) (stamp : Stamp) : (s.takeProofNotice src value quality stamp).evaluator = s.evaluator := by
  unfold State.takeProofNotice; split <;> rfl
@[simp] theorem State.takeProofNotice_report (s : State) (src : Source) (value : Option Nat) (quality : Quality) (stamp : Stamp) : (s.takeProofNotice src value quality stamp).report = s.report := by
  unfold State.takeProofNotice; split <;> rfl
@[simp] theorem State.takeProofNotice_tables (s : State) (src : Source) (value : Option Nat) (quality : Quality) (stamp : Stamp) : (s.takeProofNotice src value quality stamp).tables = s.tables := by
  unfold State.takeProofNotice; split <;> rfl
@[simp] theorem State.takeProofNotice_desk (s : State) (src : Source) (value : Option Nat) (quality : Quality) (stamp : Stamp) : (s.takeProofNotice src value quality stamp).desk = s.desk := by
  unfold State.takeProofNotice; split <;> rfl
@[simp] theorem State.takeProofNotice_clock (s : State) (src : Source) (value : Option Nat) (quality : Quality) (stamp : Stamp) : (s.takeProofNotice src value quality stamp).clock = s.clock := by
  unfold State.takeProofNotice; split <;> rfl
@[simp] theorem State.takeProofNotice_pending (s : State) (src : Source) (value : Option Nat) (quality : Quality) (stamp : Stamp) : (s.takeProofNotice src value quality stamp).pending = s.pending := by
  unfold State.takeProofNotice; split <;> rfl
@[simp] theorem State.takeProofNotice_active (s : State) (src : Source) (value : Option Nat) (quality : Quality) (stamp : Stamp) : (s.takeProofNotice src value quality stamp).active? = s.active? := by
  simp [State.active?]

/-! A term change handed on -/

@[simp] theorem Event.handOn_loop (e : Event) (c : TermChange) : ((e.handOn c).st).loop = e.st.loop := by
  simp [Event.handOn]
@[simp] theorem Event.handOn_filter (e : Event) (c : TermChange) : ((e.handOn c).st).filter = e.st.filter := by
  simp [Event.handOn]
@[simp] theorem Event.handOn_flasher (e : Event) (c : TermChange) : ((e.handOn c).st).flasher = e.st.flasher := by
  simp [Event.handOn]
@[simp] theorem Event.handOn_pairs (e : Event) (c : TermChange) : ((e.handOn c).st).pairs = e.st.pairs := by
  simp [Event.handOn]
@[simp] theorem Event.handOn_evaluator (e : Event) (c : TermChange) : ((e.handOn c).st).evaluator = e.st.evaluator := by
  simp [Event.handOn]
@[simp] theorem Event.handOn_report (e : Event) (c : TermChange) : ((e.handOn c).st).report = e.st.report := by
  simp [Event.handOn]
@[simp] theorem Event.handOn_tables (e : Event) (c : TermChange) : ((e.handOn c).st).tables = e.st.tables := by
  simp [Event.handOn]
@[simp] theorem Event.handOn_desk (e : Event) (c : TermChange) : ((e.handOn c).st).desk = e.st.desk := by
  simp [Event.handOn]
@[simp] theorem Event.handOn_clock (e : Event) (c : TermChange) : ((e.handOn c).st).clock = e.st.clock := by
  simp [Event.handOn]
@[simp] theorem Event.handOn_pending (e : Event) (c : TermChange) : ((e.handOn c).st).pending = e.st.pending := by
  simp [Event.handOn]
@[simp] theorem Event.handOn_active (e : Event) (c : TermChange) : ((e.handOn c).st).active? = e.st.active? := by
  simp [State.active?]

/-! The changeover pair's notice (R80) -/

@[simp] theorem Event.takeChangeover_loop (e : Event) (n : PairNotice) : ((e.takeChangeover n).st).loop = e.st.loop := by
  simp [Event.takeChangeover]
@[simp] theorem Event.takeChangeover_filter (e : Event) (n : PairNotice) : ((e.takeChangeover n).st).filter = e.st.filter := by
  simp [Event.takeChangeover]
@[simp] theorem Event.takeChangeover_flasher (e : Event) (n : PairNotice) : ((e.takeChangeover n).st).flasher = e.st.flasher := by
  simp [Event.takeChangeover]
@[simp] theorem Event.takeChangeover_pairs (e : Event) (n : PairNotice) : ((e.takeChangeover n).st).pairs = e.st.pairs := by
  simp [Event.takeChangeover]
@[simp] theorem Event.takeChangeover_report (e : Event) (n : PairNotice) : ((e.takeChangeover n).st).report = e.st.report := by
  simp [Event.takeChangeover]
@[simp] theorem Event.takeChangeover_tables (e : Event) (n : PairNotice) : ((e.takeChangeover n).st).tables = e.st.tables := by
  simp [Event.takeChangeover]
@[simp] theorem Event.takeChangeover_desk (e : Event) (n : PairNotice) : ((e.takeChangeover n).st).desk = e.st.desk := by
  simp [Event.takeChangeover]
@[simp] theorem Event.takeChangeover_clock (e : Event) (n : PairNotice) : ((e.takeChangeover n).st).clock = e.st.clock := by
  simp [Event.takeChangeover]
@[simp] theorem Event.takeChangeover_pending (e : Event) (n : PairNotice) : ((e.takeChangeover n).st).pending = e.st.pending := by
  simp [Event.takeChangeover]
@[simp] theorem Event.takeChangeover_active (e : Event) (n : PairNotice) : ((e.takeChangeover n).st).active? = e.st.active? := by
  simp [State.active?]

/-! A pair's notice handed on -/

@[simp] theorem Event.handOnPair_loop (m : Memory) (e : Event) (n : PairNotice) : ((Event.handOnPair m e n).st).loop = e.st.loop := by
  unfold Event.handOnPair; split <;> simp
@[simp] theorem Event.handOnPair_filter (m : Memory) (e : Event) (n : PairNotice) : ((Event.handOnPair m e n).st).filter = e.st.filter := by
  unfold Event.handOnPair; split <;> simp
@[simp] theorem Event.handOnPair_flasher (m : Memory) (e : Event) (n : PairNotice) : ((Event.handOnPair m e n).st).flasher = e.st.flasher := by
  unfold Event.handOnPair; split <;> simp
@[simp] theorem Event.handOnPair_pairs (m : Memory) (e : Event) (n : PairNotice) : ((Event.handOnPair m e n).st).pairs = e.st.pairs := by
  unfold Event.handOnPair; split <;> simp
@[simp] theorem Event.handOnPair_report (m : Memory) (e : Event) (n : PairNotice) : ((Event.handOnPair m e n).st).report = e.st.report := by
  unfold Event.handOnPair; split <;> simp
@[simp] theorem Event.handOnPair_tables (m : Memory) (e : Event) (n : PairNotice) : ((Event.handOnPair m e n).st).tables = e.st.tables := by
  unfold Event.handOnPair; split <;> simp
@[simp] theorem Event.handOnPair_desk (m : Memory) (e : Event) (n : PairNotice) : ((Event.handOnPair m e n).st).desk = e.st.desk := by
  unfold Event.handOnPair; split <;> simp
@[simp] theorem Event.handOnPair_clock (m : Memory) (e : Event) (n : PairNotice) : ((Event.handOnPair m e n).st).clock = e.st.clock := by
  unfold Event.handOnPair; split <;> simp
@[simp] theorem Event.handOnPair_pending (m : Memory) (e : Event) (n : PairNotice) : ((Event.handOnPair m e n).st).pending = e.st.pending := by
  unfold Event.handOnPair; split <;> simp
@[simp] theorem Event.handOnPair_active (m : Memory) (e : Event) (n : PairNotice) : ((Event.handOnPair m e n).st).active? = e.st.active? := by
  simp [State.active?]

/-! Lists of notices handed on -/

@[simp] theorem foldl_handOn_loop (ns : List InputNotice) (e : Event) : (ns.foldl (fun e n => e.handOn n.termChange) e).st.loop = e.st.loop := by
  induction ns generalizing e with
  | nil => rfl
  | cons n ns ih => simp [ih]
@[simp] theorem foldl_handOn_filter (ns : List InputNotice) (e : Event) : (ns.foldl (fun e n => e.handOn n.termChange) e).st.filter = e.st.filter := by
  induction ns generalizing e with
  | nil => rfl
  | cons n ns ih => simp [ih]
@[simp] theorem foldl_handOn_flasher (ns : List InputNotice) (e : Event) : (ns.foldl (fun e n => e.handOn n.termChange) e).st.flasher = e.st.flasher := by
  induction ns generalizing e with
  | nil => rfl
  | cons n ns ih => simp [ih]
@[simp] theorem foldl_handOn_pairs (ns : List InputNotice) (e : Event) : (ns.foldl (fun e n => e.handOn n.termChange) e).st.pairs = e.st.pairs := by
  induction ns generalizing e with
  | nil => rfl
  | cons n ns ih => simp [ih]
@[simp] theorem foldl_handOn_evaluator (ns : List InputNotice) (e : Event) : (ns.foldl (fun e n => e.handOn n.termChange) e).st.evaluator = e.st.evaluator := by
  induction ns generalizing e with
  | nil => rfl
  | cons n ns ih => simp [ih]
@[simp] theorem foldl_handOn_report (ns : List InputNotice) (e : Event) : (ns.foldl (fun e n => e.handOn n.termChange) e).st.report = e.st.report := by
  induction ns generalizing e with
  | nil => rfl
  | cons n ns ih => simp [ih]
@[simp] theorem foldl_handOn_tables (ns : List InputNotice) (e : Event) : (ns.foldl (fun e n => e.handOn n.termChange) e).st.tables = e.st.tables := by
  induction ns generalizing e with
  | nil => rfl
  | cons n ns ih => simp [ih]
@[simp] theorem foldl_handOn_desk (ns : List InputNotice) (e : Event) : (ns.foldl (fun e n => e.handOn n.termChange) e).st.desk = e.st.desk := by
  induction ns generalizing e with
  | nil => rfl
  | cons n ns ih => simp [ih]
@[simp] theorem foldl_handOn_clock (ns : List InputNotice) (e : Event) : (ns.foldl (fun e n => e.handOn n.termChange) e).st.clock = e.st.clock := by
  induction ns generalizing e with
  | nil => rfl
  | cons n ns ih => simp [ih]
@[simp] theorem foldl_handOn_pending (ns : List InputNotice) (e : Event) : (ns.foldl (fun e n => e.handOn n.termChange) e).st.pending = e.st.pending := by
  induction ns generalizing e with
  | nil => rfl
  | cons n ns ih => simp [ih]
@[simp] theorem foldl_handOnPair_loop (m : Memory) (ns : List PairNotice) (e : Event) : (ns.foldl (Event.handOnPair m) e).st.loop = e.st.loop := by
  induction ns generalizing e with
  | nil => rfl
  | cons n ns ih => simp [ih]
@[simp] theorem foldl_handOnPair_filter (m : Memory) (ns : List PairNotice) (e : Event) : (ns.foldl (Event.handOnPair m) e).st.filter = e.st.filter := by
  induction ns generalizing e with
  | nil => rfl
  | cons n ns ih => simp [ih]
@[simp] theorem foldl_handOnPair_flasher (m : Memory) (ns : List PairNotice) (e : Event) : (ns.foldl (Event.handOnPair m) e).st.flasher = e.st.flasher := by
  induction ns generalizing e with
  | nil => rfl
  | cons n ns ih => simp [ih]
@[simp] theorem foldl_handOnPair_pairs (m : Memory) (ns : List PairNotice) (e : Event) : (ns.foldl (Event.handOnPair m) e).st.pairs = e.st.pairs := by
  induction ns generalizing e with
  | nil => rfl
  | cons n ns ih => simp [ih]
@[simp] theorem foldl_handOnPair_report (m : Memory) (ns : List PairNotice) (e : Event) : (ns.foldl (Event.handOnPair m) e).st.report = e.st.report := by
  induction ns generalizing e with
  | nil => rfl
  | cons n ns ih => simp [ih]
@[simp] theorem foldl_handOnPair_tables (m : Memory) (ns : List PairNotice) (e : Event) : (ns.foldl (Event.handOnPair m) e).st.tables = e.st.tables := by
  induction ns generalizing e with
  | nil => rfl
  | cons n ns ih => simp [ih]
@[simp] theorem foldl_handOnPair_desk (m : Memory) (ns : List PairNotice) (e : Event) : (ns.foldl (Event.handOnPair m) e).st.desk = e.st.desk := by
  induction ns generalizing e with
  | nil => rfl
  | cons n ns ih => simp [ih]
@[simp] theorem foldl_handOnPair_clock (m : Memory) (ns : List PairNotice) (e : Event) : (ns.foldl (Event.handOnPair m) e).st.clock = e.st.clock := by
  induction ns generalizing e with
  | nil => rfl
  | cons n ns ih => simp [ih]
@[simp] theorem foldl_handOnPair_pending (m : Memory) (ns : List PairNotice) (e : Event) : (ns.foldl (Event.handOnPair m) e).st.pending = e.st.pending := by
  induction ns generalizing e with
  | nil => rfl
  | cons n ns ih => simp [ih]

/-! A batch (R70) -/

@[simp] theorem Event.takeBatch_loop (e : Event) (b : Bank) (ns : List InputNotice) (read : Option (Nat × Stamp)) : ((e.takeBatch b ns read).st).loop = e.st.loop := by
  simp [Event.takeBatch]
@[simp] theorem Event.takeBatch_filter (e : Event) (b : Bank) (ns : List InputNotice) (read : Option (Nat × Stamp)) : ((e.takeBatch b ns read).st).filter = e.st.filter := by
  simp [Event.takeBatch]
@[simp] theorem Event.takeBatch_flasher (e : Event) (b : Bank) (ns : List InputNotice) (read : Option (Nat × Stamp)) : ((e.takeBatch b ns read).st).flasher = e.st.flasher := by
  simp [Event.takeBatch]
@[simp] theorem Event.takeBatch_report (e : Event) (b : Bank) (ns : List InputNotice) (read : Option (Nat × Stamp)) : ((e.takeBatch b ns read).st).report = e.st.report := by
  simp [Event.takeBatch]
@[simp] theorem Event.takeBatch_tables (e : Event) (b : Bank) (ns : List InputNotice) (read : Option (Nat × Stamp)) : ((e.takeBatch b ns read).st).tables = e.st.tables := by
  simp [Event.takeBatch]
@[simp] theorem Event.takeBatch_desk (e : Event) (b : Bank) (ns : List InputNotice) (read : Option (Nat × Stamp)) : ((e.takeBatch b ns read).st).desk = e.st.desk := by
  simp [Event.takeBatch]
@[simp] theorem Event.takeBatch_clock (e : Event) (b : Bank) (ns : List InputNotice) (read : Option (Nat × Stamp)) : ((e.takeBatch b ns read).st).clock = e.st.clock := by
  simp [Event.takeBatch]
@[simp] theorem Event.takeBatch_pending (e : Event) (b : Bank) (ns : List InputNotice) (read : Option (Nat × Stamp)) : ((e.takeBatch b ns read).st).pending = e.st.pending := by
  simp [Event.takeBatch]
@[simp] theorem Event.takeBatch_active (e : Event) (b : Bank) (ns : List InputNotice) (read : Option (Nat × Stamp)) : ((e.takeBatch b ns read).st).active? = e.st.active? := by
  simp [State.active?]

/-! The outage of a position (R43) -/

@[simp] theorem Event.positionOutage_loop (e : Event) (b : Bank) (p : Nat) (t : Stamp) : ((e.positionOutage b p t).st).loop = e.st.loop := by
  simp [Event.positionOutage]
@[simp] theorem Event.positionOutage_report (e : Event) (b : Bank) (p : Nat) (t : Stamp) : ((e.positionOutage b p t).st).report = e.st.report := by
  simp [Event.positionOutage]
@[simp] theorem Event.positionOutage_tables (e : Event) (b : Bank) (p : Nat) (t : Stamp) : ((e.positionOutage b p t).st).tables = e.st.tables := by
  simp [Event.positionOutage]
@[simp] theorem Event.positionOutage_desk (e : Event) (b : Bank) (p : Nat) (t : Stamp) : ((e.positionOutage b p t).st).desk = e.st.desk := by
  simp [Event.positionOutage]
@[simp] theorem Event.positionOutage_clock (e : Event) (b : Bank) (p : Nat) (t : Stamp) : ((e.positionOutage b p t).st).clock = e.st.clock := by
  simp [Event.positionOutage]
@[simp] theorem Event.positionOutage_pending (e : Event) (b : Bank) (p : Nat) (t : Stamp) : ((e.positionOutage b p t).st).pending = e.st.pending := by
  simp [Event.positionOutage]
@[simp] theorem Event.positionOutage_active (e : Event) (b : Bank) (p : Nat) (t : Stamp) : ((e.positionOutage b p t).st).active? = e.st.active? := by
  simp [State.active?]

/-! Every outage (R43) -/

@[simp] theorem foldl_outage_loop (b : Bank) (t : Stamp) (ps : List Nat) (e : Event) :
    (ps.foldl (fun e p => if e.st.outage p then e.positionOutage b p t else e) e).st.loop = e.st.loop := by
  induction ps generalizing e with
  | nil => rfl
  | cons p ps ih => simp only [List.foldl_cons, ih]; split <;> simp
@[simp] theorem foldl_outage_report (b : Bank) (t : Stamp) (ps : List Nat) (e : Event) :
    (ps.foldl (fun e p => if e.st.outage p then e.positionOutage b p t else e) e).st.report = e.st.report := by
  induction ps generalizing e with
  | nil => rfl
  | cons p ps ih => simp only [List.foldl_cons, ih]; split <;> simp
@[simp] theorem foldl_outage_tables (b : Bank) (t : Stamp) (ps : List Nat) (e : Event) :
    (ps.foldl (fun e p => if e.st.outage p then e.positionOutage b p t else e) e).st.tables = e.st.tables := by
  induction ps generalizing e with
  | nil => rfl
  | cons p ps ih => simp only [List.foldl_cons, ih]; split <;> simp
@[simp] theorem foldl_outage_desk (b : Bank) (t : Stamp) (ps : List Nat) (e : Event) :
    (ps.foldl (fun e p => if e.st.outage p then e.positionOutage b p t else e) e).st.desk = e.st.desk := by
  induction ps generalizing e with
  | nil => rfl
  | cons p ps ih => simp only [List.foldl_cons, ih]; split <;> simp
@[simp] theorem foldl_outage_clock (b : Bank) (t : Stamp) (ps : List Nat) (e : Event) :
    (ps.foldl (fun e p => if e.st.outage p then e.positionOutage b p t else e) e).st.clock = e.st.clock := by
  induction ps generalizing e with
  | nil => rfl
  | cons p ps ih => simp only [List.foldl_cons, ih]; split <;> simp
@[simp] theorem foldl_outage_pending (b : Bank) (t : Stamp) (ps : List Nat) (e : Event) :
    (ps.foldl (fun e p => if e.st.outage p then e.positionOutage b p t else e) e).st.pending = e.st.pending := by
  induction ps generalizing e with
  | nil => rfl
  | cons p ps ih => simp only [List.foldl_cons, ih]; split <;> simp

/-! The outages of an event -/

@[simp] theorem Event.outages_loop (e : Event) (t : Stamp) : ((e.outages t).st).loop = e.st.loop := by
  unfold Event.outages; split <;> simp
@[simp] theorem Event.outages_report (e : Event) (t : Stamp) : ((e.outages t).st).report = e.st.report := by
  unfold Event.outages; split <;> simp
@[simp] theorem Event.outages_tables (e : Event) (t : Stamp) : ((e.outages t).st).tables = e.st.tables := by
  unfold Event.outages; split <;> simp
@[simp] theorem Event.outages_desk (e : Event) (t : Stamp) : ((e.outages t).st).desk = e.st.desk := by
  unfold Event.outages; split <;> simp
@[simp] theorem Event.outages_clock (e : Event) (t : Stamp) : ((e.outages t).st).clock = e.st.clock := by
  unfold Event.outages; split <;> simp
@[simp] theorem Event.outages_pending (e : Event) (t : Stamp) : ((e.outages t).st).pending = e.st.pending := by
  unfold Event.outages; split <;> simp
@[simp] theorem Event.outages_active (e : Event) (t : Stamp) : ((e.outages t).st).active? = e.st.active? := by
  simp [State.active?]

/-! An input card's report (R39) -/

@[simp] theorem Event.inputReport_loop (e : Event) (b : Bank) (p values : Nat) (low : Bool) (t : Stamp) : ((e.inputReport b p values low t).st).loop = e.st.loop := by
  simp [Event.inputReport]
@[simp] theorem Event.inputReport_report (e : Event) (b : Bank) (p values : Nat) (low : Bool) (t : Stamp) : ((e.inputReport b p values low t).st).report = e.st.report := by
  simp [Event.inputReport]
@[simp] theorem Event.inputReport_tables (e : Event) (b : Bank) (p values : Nat) (low : Bool) (t : Stamp) : ((e.inputReport b p values low t).st).tables = e.st.tables := by
  simp [Event.inputReport]
@[simp] theorem Event.inputReport_desk (e : Event) (b : Bank) (p values : Nat) (low : Bool) (t : Stamp) : ((e.inputReport b p values low t).st).desk = e.st.desk := by
  simp [Event.inputReport]
@[simp] theorem Event.inputReport_clock (e : Event) (b : Bank) (p values : Nat) (low : Bool) (t : Stamp) : ((e.inputReport b p values low t).st).clock = e.st.clock := by
  simp [Event.inputReport]
@[simp] theorem Event.inputReport_pending (e : Event) (b : Bank) (p values : Nat) (low : Bool) (t : Stamp) : ((e.inputReport b p values low t).st).pending = e.st.pending := by
  simp [Event.inputReport]
@[simp] theorem Event.inputReport_active (e : Event) (b : Bank) (p values : Nat) (low : Bool) (t : Stamp) : ((e.inputReport b p values low t).st).active? = e.st.active? := by
  simp [State.active?]

/-! An output card's readbacks (R134) -/

@[simp] theorem Event.checkReadbacks_loop (e : Event) (m : Memory) (p values : Nat) (t : Stamp) : ((e.checkReadbacks m p values t).st).loop = e.st.loop := by
  simp [Event.checkReadbacks]
@[simp] theorem Event.checkReadbacks_filter (e : Event) (m : Memory) (p values : Nat) (t : Stamp) : ((e.checkReadbacks m p values t).st).filter = e.st.filter := by
  simp [Event.checkReadbacks]
@[simp] theorem Event.checkReadbacks_flasher (e : Event) (m : Memory) (p values : Nat) (t : Stamp) : ((e.checkReadbacks m p values t).st).flasher = e.st.flasher := by
  simp [Event.checkReadbacks]
@[simp] theorem Event.checkReadbacks_pairs (e : Event) (m : Memory) (p values : Nat) (t : Stamp) : ((e.checkReadbacks m p values t).st).pairs = e.st.pairs := by
  simp [Event.checkReadbacks]
@[simp] theorem Event.checkReadbacks_report (e : Event) (m : Memory) (p values : Nat) (t : Stamp) : ((e.checkReadbacks m p values t).st).report = e.st.report := by
  simp [Event.checkReadbacks]
@[simp] theorem Event.checkReadbacks_tables (e : Event) (m : Memory) (p values : Nat) (t : Stamp) : ((e.checkReadbacks m p values t).st).tables = e.st.tables := by
  simp [Event.checkReadbacks]
@[simp] theorem Event.checkReadbacks_desk (e : Event) (m : Memory) (p values : Nat) (t : Stamp) : ((e.checkReadbacks m p values t).st).desk = e.st.desk := by
  simp [Event.checkReadbacks]
@[simp] theorem Event.checkReadbacks_clock (e : Event) (m : Memory) (p values : Nat) (t : Stamp) : ((e.checkReadbacks m p values t).st).clock = e.st.clock := by
  simp [Event.checkReadbacks]
@[simp] theorem Event.checkReadbacks_pending (e : Event) (m : Memory) (p values : Nat) (t : Stamp) : ((e.checkReadbacks m p values t).st).pending = e.st.pending := by
  simp [Event.checkReadbacks]
@[simp] theorem Event.checkReadbacks_active (e : Event) (m : Memory) (p values : Nat) (t : Stamp) : ((e.checkReadbacks m p values t).st).active? = e.st.active? := by
  simp [State.active?]

/-! A sweep has left (R129, R133) -/

@[simp] theorem State.sweepSent_loop (s : State) (b : Bank) (on : List Nat) : (s.sweepSent b on).loop = s.loop := by
  rfl
@[simp] theorem State.sweepSent_filter (s : State) (b : Bank) (on : List Nat) : (s.sweepSent b on).filter = s.filter := by
  rfl
@[simp] theorem State.sweepSent_flasher (s : State) (b : Bank) (on : List Nat) : (s.sweepSent b on).flasher = s.flasher := by
  rfl
@[simp] theorem State.sweepSent_pairs (s : State) (b : Bank) (on : List Nat) : (s.sweepSent b on).pairs = s.pairs := by
  rfl
@[simp] theorem State.sweepSent_evaluator (s : State) (b : Bank) (on : List Nat) : (s.sweepSent b on).evaluator = s.evaluator := by
  rfl
@[simp] theorem State.sweepSent_report (s : State) (b : Bank) (on : List Nat) : (s.sweepSent b on).report = s.report := by
  rfl
@[simp] theorem State.sweepSent_tables (s : State) (b : Bank) (on : List Nat) : (s.sweepSent b on).tables = s.tables := by
  rfl
@[simp] theorem State.sweepSent_desk (s : State) (b : Bank) (on : List Nat) : (s.sweepSent b on).desk = s.desk := by
  rfl
@[simp] theorem State.sweepSent_clock (s : State) (b : Bank) (on : List Nat) : (s.sweepSent b on).clock = s.clock := by
  rfl
@[simp] theorem State.sweepSent_pending (s : State) (b : Bank) (on : List Nat) : (s.sweepSent b on).pending = s.pending := by
  rfl
@[simp] theorem State.sweepSent_active (s : State) (b : Bank) (on : List Nat) : (s.sweepSent b on).active? = s.active? := by
  simp [State.active?]

/-! The next sweep is sent (R1) -/

@[simp] theorem State.sendSweep_filter (s : State) : (s.sendSweep).filter = s.filter := by
  unfold State.sendSweep; split <;> simp
@[simp] theorem State.sendSweep_flasher (s : State) : (s.sendSweep).flasher = s.flasher := by
  unfold State.sendSweep; split <;> simp
@[simp] theorem State.sendSweep_pairs (s : State) : (s.sendSweep).pairs = s.pairs := by
  unfold State.sendSweep; split <;> simp
@[simp] theorem State.sendSweep_evaluator (s : State) : (s.sendSweep).evaluator = s.evaluator := by
  unfold State.sendSweep; split <;> simp
@[simp] theorem State.sendSweep_report (s : State) : (s.sendSweep).report = s.report := by
  unfold State.sendSweep; split <;> simp
@[simp] theorem State.sendSweep_tables (s : State) : (s.sendSweep).tables = s.tables := by
  unfold State.sendSweep; split <;> simp
@[simp] theorem State.sendSweep_desk (s : State) : (s.sendSweep).desk = s.desk := by
  unfold State.sendSweep; split <;> simp
@[simp] theorem State.sendSweep_clock (s : State) : (s.sendSweep).clock = s.clock := by
  unfold State.sendSweep; split <;> simp
@[simp] theorem State.sendSweep_pending (s : State) : (s.sendSweep).pending = s.pending := by
  unfold State.sendSweep; split <;> simp
@[simp] theorem State.sendSweep_active (s : State) : (s.sendSweep).active? = s.active? := by
  simp [State.active?]

end Sys2Proof.Machine
end

