-- ==== Sys2Proof/Laws/Request.lean ====
section
/-! SUPPORT. Slots, outcomes and the conditions' values, each shared operation said once. -/

namespace Sys2Proof.Machine

/-- The occupied slots after some have ended are those that have not (R125). -/
theorem RequestEngine.endSlots_occupied (r : RequestEngine) (which : Slot → Bool) (result : RequestResult) (stamp : Stamp)
    (reasons : Option Reasons) :
    (r.endSlots which result stamp reasons).occupied = r.occupied.filter fun sl => !which sl := by
  simp only [RequestEngine.endSlots, RequestEngine.occupied]
  induction r.slots with
  | nil => rfl
  | cons o os ih =>
    cases o with
    | none => simpa using ih
    | some sl => by_cases h : which sl <;> simp_all [Option.filter]

/-- An ending moves each slot that ends to the outcome list (R124, R125): the places in use stay as many. -/
theorem RequestEngine.endSlots_places (r : RequestEngine) (which : Slot → Bool) (result : RequestResult) (stamp : Stamp)
    (reasons : Option Reasons) :
    (r.endSlots which result stamp reasons).outcomes.length + (r.endSlots which result stamp reasons).occupied.length
      = r.outcomes.length + r.occupied.length := by
  rw [RequestEngine.endSlots_occupied]
  simp only [RequestEngine.endSlots, List.length_append, List.length_map]
  have h : (r.occupied.filter which).length + (r.occupied.filter fun sl => !which sl).length = r.occupied.length := by
    induction r.occupied with
    | nil => rfl
    | cons x xs ih => by_cases hx : which x <;> simp [hx] <;> omega
  omega

@[simp] theorem RequestEngine.endSlots_slots_length (r : RequestEngine) (which : Slot → Bool) (result : RequestResult) (stamp : Stamp)
    (reasons : Option Reasons) : (r.endSlots which result stamp reasons).slots.length = r.slots.length := by
  simp [RequestEngine.endSlots]

@[simp] theorem RequestEngine.endSlots_blocked (r : RequestEngine) (which : Slot → Bool) (result : RequestResult) (stamp : Stamp)
    (reasons : Option Reasons) : (r.endSlots which result stamp reasons).blocked = r.blocked := rfl

@[simp] theorem RequestEngine.endSlots_authority (r : RequestEngine) (which : Slot → Bool) (result : RequestResult) (stamp : Stamp)
    (reasons : Option Reasons) : (r.endSlots which result stamp reasons).authority = r.authority := rfl

/-- The slots after the steps have been brought up to date are some of those before, each changed by `f` (R129, R130). -/
theorem RequestEngine.bringUpToDate_occupied (r : RequestEngine) (b : Bank) (f : Slot → Slot) (stamp : Stamp) :
    (r.bringUpToDate b f stamp).occupied = (r.occupied.filter fun sl => ((f sl).ending b).isNone).map fun sl => (f sl).goOn := by
  simp only [RequestEngine.bringUpToDate, RequestEngine.occupied]
  induction r.slots with
  | nil => rfl
  | cons o os ih =>
    cases o with
    | none => simpa using ih
    | some sl => cases h : (f sl).ending b <;> simp_all

/-- An event whose condition stands at the value handed on changes nothing (R88). -/
theorem Event.setCondition_same (e : Event) (c : Nat) (v : Bool) (stamp : Stamp) (h : e.st.evaluator.conditions.get c = v) :
    e.setCondition c v stamp = e := by simp [Event.setCondition, h]

/-- A condition 0 to 7 that has been set is read back, and the others stand as they were. -/
theorem Conditions.get_put (c : Conditions) (n m : Nat) (v : Bool) (hn : n < 8) :
    (c.put n v).get m = if m = n then v else c.get m := by
  have h : n = 0 ∨ n = 1 ∨ n = 2 ∨ n = 3 ∨ n = 4 ∨ n = 5 ∨ n = 6 ∨ n = 7 := by omega
  rcases h with rfl | rfl | rfl | rfl | rfl | rfl | rfl | rfl <;>
    · by_cases hm : m < 8
      · have h : m = 0 ∨ m = 1 ∨ m = 2 ∨ m = 3 ∨ m = 4 ∨ m = 5 ∨ m = 6 ∨ m = 7 := by omega
        rcases h with rfl | rfl | rfl | rfl | rfl | rfl | rfl | rfl <;> rfl
      · obtain ⟨k, rfl⟩ : ∃ k, m = k + 8 := ⟨m - 8, by omega⟩
        simp [Conditions.get]

/-- After an owner has handed a condition's value on, the condition stands at it (R88). -/
theorem Event.setCondition_get (e : Event) (c : Nat) (v : Bool) (stamp : Stamp) (hc : c < 8) :
    (e.setCondition c v stamp).st.evaluator.conditions.get c = v := by
  unfold Event.setCondition
  split
  · assumption
  · simp [Conditions.get_put _ _ _ _ hc]

/-- After authority has been judged, the reason set and the authority state are those of the conditions (R118). -/
theorem Event.judgeAuthority_request (e : Event) (stamp : Stamp) :
    (e.judgeAuthority stamp).st.request.reasons = e.st.reasonSet
      ∧ (e.judgeAuthority stamp).st.request.authority = e.st.reasonSet.isEmpty := by
  unfold Event.judgeAuthority
  dsimp only
  split
  · rename_i h
    exact ⟨h.1.symm, h.2⟩
  · split <;> split <;> simp [State.onRequest, State.withConditions, RequestEngine.endSlots]

/-- A value put under a key is read back, and the other keys stand as they were. -/
theorem keyedGet_put {α : Type} (k : Nat) (x : α) (xs : List (Nat × α)) (j : Nat) :
    keyedGet j (keyedPut k x xs) = if j = k then some x else keyedGet j xs := by
  induction xs with
  | nil => by_cases h : j = k <;> simp [keyedPut, keyedGet, h, Ne.symm]
  | cons y ys ih =>
    obtain ⟨k', y⟩ := y
    simp only [keyedPut]
    by_cases h1 : k < k'
    · by_cases h : j = k
      · simp [h1, keyedGet, h]
      · simp [h1, keyedGet, h, Ne.symm h]
    · by_cases h2 : k' = k
      · subst h2
        by_cases h : j = k'
        · simp [keyedGet, h]
        · simp [keyedGet, h, Ne.symm h]
      · by_cases h : k' = j
        · subst h
          simp [h1, h2, keyedGet]
        · simp [h1, h2, keyedGet, h, ih]

/-- Membership of a set with one more member. -/
theorem mem_setInsert (k j : Nat) (xs : List Nat) : j ∈ setInsert k xs ↔ j = k ∨ j ∈ xs := by
  induction xs with
  | nil => simp [setInsert]
  | cons y ys ih =>
    simp only [setInsert]
    split
    · simp
    · split
      · rename_i h; subst h; simp
      · simp [ih]; tauto

/-! The order of the records of one event (R125) -/

@[simp] theorem RequestEngine.inSlotOrder_slots (r before : RequestEngine) : (r.inSlotOrder before).slots = r.slots := rfl
@[simp] theorem RequestEngine.inSlotOrder_occupied (r before : RequestEngine) : (r.inSlotOrder before).occupied = r.occupied := rfl
@[simp] theorem RequestEngine.inSlotOrder_blocked (r before : RequestEngine) : (r.inSlotOrder before).blocked = r.blocked := rfl
@[simp] theorem RequestEngine.inSlotOrder_authority (r before : RequestEngine) : (r.inSlotOrder before).authority = r.authority := rfl

/-- The ordering changes nothing of the request engine but the outcome list. -/
theorem RequestEngine.inSlotOrder_frame (r before : RequestEngine) : { r.inSlotOrder before with outcomes := r.outcomes } = r := rfl

/-- The ordering keeps the records of the earlier events in front and moves no record away (R125). -/
theorem RequestEngine.inSlotOrder_outcomes (r before : RequestEngine) :
    (r.inSlotOrder before).outcomes.Perm r.outcomes
      ∧ r.outcomes.take before.outcomes.length <+: (r.inSlotOrder before).outcomes := by
  refine ⟨?_, List.prefix_append _ _⟩
  have h := List.perm_insertionSort (fun x y => before.slotOf x ≤ before.slotOf y) (r.outcomes.drop before.outcomes.length)
  exact (List.Perm.append_left _ h).trans (by rw [List.take_append_drop])

@[simp] theorem RequestEngine.inSlotOrder_outcomes_length (r before : RequestEngine) :
    (r.inSlotOrder before).outcomes.length = r.outcomes.length := (r.inSlotOrder_outcomes before).1.length_eq

/-! The readback of one output and of a card (R134) -/

/-- What is kept of an output after another has been written (R133). -/
theorem RequestEngine.carriedOf_put (r : RequestEngine) (key k : Nat) (c : Carried) :
    { r with carried := keyedPut key c r.carried }.carriedOf k = if k = key then c else r.carriedOf k := by
  simp only [RequestEngine.carriedOf, keyedGet_put]
  split <;> rfl

/-- Everything the readback of one output can do (R134). -/
theorem RequestEngine.checkOutput_spec (r : RequestEngine) (key : Nat) (readback : Bool) :
    (∀ k, k ≠ key → (r.checkOutput key readback).carriedOf k = r.carriedOf k)
      ∧ (0 < (r.carriedOf key).grace →
          (r.checkOutput key readback).carriedOf key = { r.carriedOf key with grace := (r.carriedOf key).grace - 1 }
            ∧ (r.checkOutput key readback).blocked = r.blocked)
      ∧ ((r.carriedOf key).grace = 0 → (r.checkOutput key readback).carried = r.carried
          ∧ ∀ k, k ∈ (r.checkOutput key readback).blocked ↔ k ∈ r.blocked ∨ (k = key ∧ (r.carriedOf key).state = some (!readback)))
      ∧ { r.checkOutput key readback with blocked := r.blocked, carried := r.carried } = r := by
  unfold RequestEngine.checkOutput
  by_cases hg : 0 < (r.carriedOf key).grace
  · simp only [hg, if_true]
    refine ⟨fun k hk => ?_, fun _ => ⟨?_, rfl⟩, fun h => absurd h (by omega), rfl⟩
    · simp [RequestEngine.excuse, RequestEngine.carriedOf_put, hk]
    · simp [RequestEngine.excuse, RequestEngine.carriedOf_put]
  · simp only [hg, if_false]
    have hm : (r.carriedOf key).mismatch readback = true ↔ (r.carriedOf key).state = some (!readback) := by
      unfold Carried.mismatch
      cases (r.carriedOf key).state with
      | none => simp
      | some on => cases on <;> cases readback <;> simp
    split
    · rename_i h
      refine ⟨fun _ _ => rfl, fun h => False.elim h, fun _ => ⟨rfl, fun k => ?_⟩, rfl⟩
      rw [mem_setInsert]
      have := hm.1 h.1
      tauto
    · rename_i h
      refine ⟨fun _ _ => rfl, fun h => False.elim h, fun _ => ⟨rfl, fun k => ?_⟩, rfl⟩
      rw [← hm]
      constructor
      · exact .inl
      · rintro (hk | ⟨rfl, hk⟩)
        · exact hk
        · by_contra hb
          exact h ⟨hk, by simpa using hb⟩

/-- Checking outputs one after another changes nothing of the request engine but the blocked-output set and the grace counts. -/
theorem RequestEngine.checkCard_frame (r : RequestEngine) (p values : Nat) :
    { r.checkCard p values with blocked := r.blocked, carried := r.carried } = r := by
  unfold RequestEngine.checkCard
  induction List.range 16 using List.reverseRecOn with
  | nil => rfl
  | append_singleton os o ih =>
    rw [List.foldl_append]
    have h := (RequestEngine.checkOutput_spec (os.foldl (fun r o => r.checkOutput (outputKey p o) (values.testBit o)) r)
      (outputKey p o) (values.testBit o)).2.2.2
    have h2 := congrArg (fun x : RequestEngine => { x with blocked := r.blocked, carried := r.carried }) h
    exact h2.trans ih

@[simp] theorem RequestEngine.checkCard_slots (r : RequestEngine) (p values : Nat) : (r.checkCard p values).slots = r.slots := by
  have h := congrArg RequestEngine.slots (r.checkCard_frame p values)
  simp only at h
  exact h
@[simp] theorem RequestEngine.checkCard_outcomes (r : RequestEngine) (p values : Nat) : (r.checkCard p values).outcomes = r.outcomes := by
  have h := congrArg RequestEngine.outcomes (r.checkCard_frame p values)
  simp only at h
  exact h
@[simp] theorem RequestEngine.checkCard_authority (r : RequestEngine) (p values : Nat) : (r.checkCard p values).authority = r.authority := by
  have h := congrArg RequestEngine.authority (r.checkCard_frame p values)
  simp only at h
  exact h
@[simp] theorem RequestEngine.checkCard_occupied (r : RequestEngine) (p values : Nat) : (r.checkCard p values).occupied = r.occupied := by
  simp [RequestEngine.occupied]

/-- A blocked output stays blocked through a report (R134). -/
theorem RequestEngine.checkCard_keeps (r : RequestEngine) (p values k : Nat) (h : k ∈ r.blocked) : k ∈ (r.checkCard p values).blocked := by
  unfold RequestEngine.checkCard
  induction List.range 16 using List.reverseRecOn with
  | nil => exact h
  | append_singleton os o ih =>
    rw [List.foldl_append]
    generalize os.foldl (fun r o => r.checkOutput (outputKey p o) (values.testBit o)) r = u at ih ⊢
    have hs := u.checkOutput_spec (outputKey p o) (values.testBit o)
    rcases Nat.eq_zero_or_pos (u.carriedOf (outputKey p o)).grace with hg | hg
    · exact ((hs.2.2.1 hg).2 k).2 (.inl ih)
    · have := (hs.2.1 hg).2
      simpa [this] using ih

/-- Of the occupied slots, those stay whose points name no output that has newly been blocked (R134). -/
theorem RequestEngine.endBlocked_occupied (r before : RequestEngine) (m : Memory) (t : Stamp) :
    (r.endBlocked before m t).occupied
      = r.occupied.filter fun sl => !(m.pointOutputs sl.point).any fun k => r.blocked.contains k && !before.blocked.contains k := by
  rw [RequestEngine.endBlocked, RequestEngine.endSlots_occupied]

/-- An ending by readback moves each slot that ends to the outcome list (R125). -/
theorem RequestEngine.endBlocked_places (r before : RequestEngine) (m : Memory) (t : Stamp) :
    (r.endBlocked before m t).outcomes.length + (r.endBlocked before m t).occupied.length = r.outcomes.length + r.occupied.length :=
  r.endSlots_places _ _ _ _

/-- An ending by readback changes the slots and the outcome list alone. -/
theorem RequestEngine.endBlocked_frame (r before : RequestEngine) (m : Memory) (t : Stamp) :
    { r.endBlocked before m t with slots := r.slots, outcomes := r.outcomes } = r := rfl

/-- What the readbacks of a report leave of the request engine (R134). -/
theorem Event.checkReadbacks_request (e : Event) (m : Memory) (p values : Nat) (t : Stamp) :
    (e.checkReadbacks m p values t).st.request = (e.st.request.checkCard p values).endBlocked e.st.request m t := by
  simp [Event.checkReadbacks, Event.onState, State.onRequest]

/-- After a report's readbacks OUTPUTS_HEALTHY says whether an output is blocked (section 6.2). -/
theorem Event.checkReadbacks_outputsHealthy (e : Event) (m : Memory) (p values : Nat) (t : Stamp) :
    (e.checkReadbacks m p values t).st.evaluator.conditions.get 5 = (e.st.request.checkCard p values).blocked.isEmpty := by
  unfold Event.checkReadbacks Event.judgeOutputs
  rw [Event.setCondition_get _ _ _ _ (by omega)]
  simp [Event.onState, RequestEngine.endBlocked]

/-- A condition handed on after a change of the request engine alone leaves every other block as it was. -/
theorem Event.setCondition_onRequest_frame (e : Event) (f : RequestEngine → RequestEngine) (c : Nat) (v : Bool) (t : Stamp) :
    { ((e.onState fun s => s.onRequest f).setCondition c v t).st with evaluator := e.st.evaluator, request := e.st.request } = e.st := by
  unfold Event.setCondition
  split <;> rfl

/-- A report's readbacks change the request engine and the conditions alone (R134). -/
theorem Event.checkReadbacks_frame (e : Event) (m : Memory) (p values : Nat) (t : Stamp) :
    { (e.checkReadbacks m p values t).st with evaluator := e.st.evaluator, request := e.st.request } = e.st :=
  e.setCondition_onRequest_frame _ _ _ _

end Sys2Proof.Machine
end

