-- ==== Sys2Proof/Laws/Rounds.lean ====
section
/-! SUPPORT. What a round does to the report queue and to the conditions (R89, R105, R108), said once. -/

namespace Sys2Proof.Machine

/-- A change record never takes a record away (R105). -/
theorem ReportUnit.takeChange_prefix (r : ReportUnit) (limit : Nat) (m : Record) (t : Stamp) :
    r.queue <+: (r.takeChange limit m t).queue := by
  unfold ReportUnit.takeChange
  split
  · split
    · exact List.prefix_append _ _
    · exact List.prefix_rfl
  · exact List.prefix_rfl

/-- The records of a round never take a record away (R105). -/
theorem ReportUnit.takeChanges_prefix (limit : Nat) (ms : List Record) (r : ReportUnit) : r.queue <+: (r.takeChanges limit ms).queue := by
  unfold ReportUnit.takeChanges
  induction ms generalizing r with
  | nil => exact List.prefix_rfl
  | cons m ms ih => exact (r.takeChange_prefix limit m m.stamp).trans (ih _)

/-- A round leaves the queue's records in their places and adds its own behind them. -/
theorem State.runRound_prefix (s : State) (round : List TermChange) : s.report.queue <+: (s.runRound round).report.queue := by
  unfold State.runRound
  split
  · exact List.prefix_rfl
  · exact ReportUnit.takeChanges_prefix _ _ _

/-- The same of a round with the round that an entry to OVERRUN adds (R108). -/
theorem State.finishRound_prefix (s : State) (round : List TermChange) : s.report.queue <+: (s.finishRound round).report.queue := by
  unfold State.finishRound State.afterOverrun
  split
  · refine (s.runRound_prefix round).trans (List.IsPrefix.trans ?_ (State.runRound_prefix _ _))
    simp [Event.start]
  · exact s.runRound_prefix round

/-- An event's end leaves the queue's records in their places. -/
theorem Event.close_prefix (e : Event) : e.st.report.queue <+: e.close.report.queue := by
  unfold Event.close
  split
  · exact List.prefix_rfl
  · exact State.finishRound_prefix _ _

/-- The end of a round leaves every condition but QUEUE_NORMAL (R108). -/
theorem State.finishRound_condition (s : State) (round : List TermChange) (n : Nat) (hn : n ≠ 3) :
    (s.finishRound round).evaluator.conditions.get n = s.evaluator.conditions.get n := by
  unfold State.finishRound State.afterOverrun
  split
  · simp only [State.runRound_conditions]
    unfold Event.setCondition
    split
    · simp [Event.start]
    · simp [Event.start, State.withConditions, Conditions.get_put, hn]
  · simp

/-- An event's end leaves every condition but QUEUE_NORMAL. -/
theorem Event.close_condition (e : Event) (n : Nat) (hn : n ≠ 3) :
    e.close.evaluator.conditions.get n = e.st.evaluator.conditions.get n := by
  unfold Event.close
  split
  · rfl
  · exact State.finishRound_condition _ _ n hn

/-! ### What an evaluation is made of (R89 to R93) -/

/-- A round changes a source where one of its changes names it (R89). -/
theorem lastChange_isSome (round : List TermChange) (src : Source) :
    (lastChange round src).isSome = true ↔ ∃ c ∈ round, c.source = src := by
  simp [lastChange, Option.isSome_iff_ne_none]

/-- A round leaves a term's source. -/
@[simp] theorem TermState.take_source (round : List TermChange) (t : TermState) : (t.take round).source = t.source := by
  unfold TermState.take
  split <;> rfl

/-- The worse of two qualities is one of them, and neither ranks above it (section 0.4.3). -/
theorem Quality.worse_spec (a b : Quality) :
    a.rank ≤ (a.worse b).rank ∧ b.rank ≤ (a.worse b).rank ∧ (a.worse b = a ∨ a.worse b = b) := by
  unfold Quality.worse
  split <;> simp <;> omega

/-- The worst of some terms' qualities and another ranks no lower than any of them, and is one of them. -/
theorem foldl_worse_spec (ts : List TermState) (q : Quality) :
    q.rank ≤ (ts.foldl (fun q t => q.worse t.quality) q).rank
      ∧ (∀ t ∈ ts, t.quality.rank ≤ (ts.foldl (fun q t => q.worse t.quality) q).rank)
      ∧ (ts.foldl (fun q t => q.worse t.quality) q = q ∨ ∃ t ∈ ts, t.quality = ts.foldl (fun q t => q.worse t.quality) q) := by
  induction ts generalizing q with
  | nil => simp
  | cons t ts ih =>
    obtain ⟨h1, h2, h3⟩ := ih (q.worse t.quality)
    obtain ⟨w1, w2, w3⟩ := q.worse_spec t.quality
    rw [List.foldl_cons]
    refine ⟨w1.trans h1, fun u hu => ?_, ?_⟩
    · rcases List.mem_cons.1 hu with rfl | hu
      · exact w2.trans h1
      · exact h2 u hu
    · rcases h3 with h3 | ⟨u, hu, h3⟩
      · rw [h3]
        exact w3.imp id fun h => ⟨t, List.mem_cons_self, h.symm⟩
      · exact .inr ⟨u, List.mem_cons_of_mem t hu, h3⟩

/-- The combination index is the sum of the terms' values, each times its power of three (R91). -/
theorem combinationIndex_eq (ts : List TermState) (n : Nat) :
    ((ts.zipIdx n).map fun x => x.1.value.getD 0 * 3 ^ x.2).sum = 3 ^ n * combinationIndex ts := by
  induction ts generalizing n with
  | nil => simp [combinationIndex]
  | cons t ts ih =>
    simp only [List.zipIdx_cons, List.map_cons, List.sum_cons, ih, combinationIndex, pow_succ]
    ring

/-- There is a latest term wherever there is a term. -/
theorem latestTerm_eq_none (ts : List TermState) : latestTerm ts = none ↔ ts = [] := by
  cases ts with
  | nil => simp [latestTerm]
  | cons t ts =>
    simp only [latestTerm]
    split
    · simp
    · split <;> simp

/-- The latest of the terms that `p` picks: the lower-numbered on equal stamps (R92). -/
theorem latestTerm_filter_spec (p : TermState → Bool) (ts : List TermState) (t : TermState) (h : latestTerm (ts.filter p) = some t) :
    ∃ k : Nat, ts[k]? = some t ∧ p t = true ∧ ∀ (i : Nat) (u : TermState), ts[i]? = some u → p u = true →
      u.stamp.toNat < t.stamp.toNat ∨ u.stamp = t.stamp ∧ k ≤ i := by
  induction ts generalizing t with
  | nil => cases h
  | cons v vs ih =>
    by_cases hp : p v
    · rw [List.filter_cons_of_pos hp] at h
      simp only [latestTerm] at h
      cases hl : latestTerm (vs.filter p) with
      | none =>
        rw [hl] at h
        cases h
        refine ⟨0, rfl, hp, fun i u hi hu => ?_⟩
        have hn := (latestTerm_eq_none _).1 hl
        rw [List.filter_eq_nil_iff] at hn
        cases i with
        | zero => cases hi; exact .inr ⟨rfl, Nat.le_refl _⟩
        | succ i => exact absurd hu (hn u (List.mem_of_getElem? (by simpa using hi)))
      | some w =>
        rw [hl] at h
        obtain ⟨k, hk, hpw, hall⟩ := ih w hl
        simp only at h
        split at h
        · rename_i hlt
          cases h
          refine ⟨k + 1, by simpa using hk, hpw, fun i u hi hu => ?_⟩
          cases i with
          | zero => cases hi; exact .inl hlt
          | succ i => exact (hall i u (by simpa using hi) hu).imp id fun h => ⟨h.1, by omega⟩
        · rename_i hlt
          cases h
          refine ⟨0, rfl, hp, fun i u hi hu => ?_⟩
          cases i with
          | zero => cases hi; exact .inr ⟨rfl, Nat.le_refl _⟩
          | succ i =>
            have hle : u.stamp.toNat ≤ v.stamp.toNat := by
              rcases hall i u (by simpa using hi) hu with h | ⟨h, -⟩
              · omega
              · rw [h]; omega
            rcases Nat.lt_or_eq_of_le hle with h | h
            · exact .inl h
            · exact .inr ⟨BitVec.eq_of_toNat_eq h, by omega⟩
    · rw [List.filter_cons_of_neg hp] at h
      obtain ⟨k, hk, hpw, hall⟩ := ih t h
      refine ⟨k + 1, by simpa using hk, hpw, fun i u hi hu => ?_⟩
      cases i with
      | zero => cases hi; exact absurd hu hp
      | succ i => exact (hall i u (by simpa using hi) hu).imp id fun h => ⟨h.1, by omega⟩

/-- Evaluating the objects from number `n` on evaluates each by itself; the records stand in ascending object number (R89). -/
theorem evaluateFrom_eq (m : Memory) (round : List TermChange) (os : List ObjectState) (n : Nat) :
    evaluateFrom m round n os = (os.mapIdx fun j o => (evaluateObject m round (n + j) o).1,
      (os.mapIdx fun j o => (evaluateObject m round (n + j) o).2).filterMap id) := by
  induction os generalizing n with
  | nil => rfl
  | cons o os ih =>
    have h : ∀ j, n + 1 + j = n + (j + 1) := by omega
    cases h2 : (evaluateObject m round n o).2 <;> simp [evaluateFrom, ih, List.mapIdx_cons, h, h2]

end Sys2Proof.Machine
end

