-- ==== Sys2Proof/Laws/Authority.lean ====
section
/-! SUPPORT. Everything that the judgement of authority can do (R118, R121), beside `Event.judgeAuthority_request`. -/

namespace Sys2Proof.Machine

/-- Where no slot was occupied without authority, none is after the judgement (R121). -/
theorem Event.judgeAuthority_occupied (e : Event) (t : Stamp) (h : e.st.request.authority = false → e.st.request.occupied = []) :
    (e.judgeAuthority t).st.request.authority = false → (e.judgeAuthority t).st.request.occupied = [] := by
  have ends : ∀ (r : RequestEngine) stamp rs, (r.endSlots (fun _ => true) .abortedAuthority stamp rs).occupied = [] := by
    intro r stamp rs
    rw [RequestEngine.endSlots_occupied]
    simp
  unfold Event.judgeAuthority
  dsimp only
  split
  · exact h
  · intro ha
    by_cases hr : e.st.reasonSet.isEmpty = true
    · exfalso
      revert ha
      simp only [hr, if_true]
      split <;> simp [State.onRequest, State.withConditions]
    · simp only [hr]
      split
      · simp [State.withConditions, ends]
      · simp [ends]

/-- Where authority holds after the judgement, the slots and the outcome list are as they were. -/
theorem Event.judgeAuthority_keeps (e : Event) (t : Stamp) (ha : (e.judgeAuthority t).st.request.authority = true) :
    (e.judgeAuthority t).st.request.slots = e.st.request.slots
      ∧ (e.judgeAuthority t).st.request.outcomes = e.st.request.outcomes := by
  have h := (e.judgeAuthority_request t).2
  rw [ha] at h
  unfold Event.judgeAuthority
  dsimp only
  split
  · exact ⟨rfl, rfl⟩
  · split <;> simp [← h, State.withConditions]

/-- The judgement changes nothing of the request engine but authority, the reason set, the slots and the outcome list. -/
theorem Event.judgeAuthority_frame (e : Event) (t : Stamp) :
    { (e.judgeAuthority t).st.request with
      authority := e.st.request.authority, reasons := e.st.request.reasons, slots := e.st.request.slots,
      outcomes := e.st.request.outcomes } = e.st.request := by
  unfold Event.judgeAuthority
  dsimp only
  split
  · rfl
  · split <;> split <;> (try unfold Event.setCondition) <;> (try split) <;> rfl

/-- The conditions of authority stand after the judgement as before it. -/
theorem Event.judgeAuthority_reasonSet (e : Event) (t : Stamp) : (e.judgeAuthority t).st.reasonSet = e.st.reasonSet := by
  have h1 : (e.judgeAuthority t).st.loop = e.st.loop := by simp
  have h2 : (e.judgeAuthority t).st.tables = e.st.tables := by simp
  have h := e.judgeAuthority_frame t
  simp only [State.reasonSet, State.active?, h1, h2]
  rw [← h]

/-- The judgement leaves every condition but AUTHORITY. -/
theorem Event.judgeAuthority_condition (e : Event) (t : Stamp) (n : Nat) (hn : n ≠ 1) :
    (e.judgeAuthority t).st.evaluator.conditions.get n = e.st.evaluator.conditions.get n := by
  unfold Event.judgeAuthority
  dsimp only
  split
  · rfl
  · split <;> split <;> (try unfold Event.setCondition) <;> (try split) <;> simp [State.withConditions, Conditions.get_put, hn]

end Sys2Proof.Machine
end

