-- ==== Sys2Proof/Laws/Bytes.lean ====
section
/-! SUPPORT. Fields of a message, most significant byte first (section 0.4.1): what is written as bytes is read back. -/

namespace Sys2Proof.Machine

@[simp] theorem toBytes_length (w n : Nat) : (toBytes w n).length = w := by
  induction w with
  | zero => rfl
  | succ w ih => simp [toBytes, ih]

/-- The bytes of a number, read behind a number already read. -/
theorem beNat_toBytes_from (w n a : Nat) :
    (toBytes w n).foldl (fun acc (b : Byte) => acc * 256 + b.toNat) a = a * 256 ^ w + n % 256 ^ w := by
  induction w generalizing a with
  | zero => simp [toBytes, Nat.mod_one]
  | succ w ih =>
    simp only [toBytes, List.foldl_cons, ih, BitVec.toNat_ofNat]
    have h := @Nat.mod_mul (256 ^ w) 256 n
    rw [← Nat.pow_succ] at h
    rw [h, show (2 : Nat) ^ 8 = 256 from rfl]
    ring

/-- The bytes of a number read back as its low bytes. -/
theorem beNat_toBytes (w n : Nat) : beNat (toBytes w n) = n % 256 ^ w := by simp [beNat, beNat_toBytes_from]

/-- A whole content that is one number is read as that number. -/
theorem fieldAt_toBytes (w n : Nat) (h : n < 256 ^ w) : fieldAt (toBytes w n) 0 w = n := by
  rw [fieldAt, List.drop_zero, List.take_of_length_le (by simp), beNat_toBytes, Nat.mod_eq_of_lt h]

end Sys2Proof.Machine
end

