-- ==== Sys2Proof/Laws/Desk.lean ====
section
/-! SUPPORT. The taking of a message, said once (R163, R167, R168): what a management request and a control message can do. -/

namespace Sys2Proof.Machine

/-- A message whose kind is wanted is taken. -/
theorem State.takeMessage_offers (s : State) (x : RxMessage) (rest : List RxMessage) (kind : Byte) (kinds : Byte → Bool)
    (h : s.offers x rest kind) (hk : kinds kind = true) : s.takeMessage kinds = some (x.taken, s.afterTaking rest) := by
  obtain ⟨hq, rfl⟩ := h
  simp [State.takeMessage, hq, hk, State.afterTaking]

@[simp] theorem RxMessage.taken_source (x : RxMessage) : x.taken.source = x.source := rfl
@[simp] theorem RxMessage.taken_content (x : RxMessage) : x.taken.content = x.content := rfl
@[simp] theorem State.afterTaking_active (s : State) (rest : List RxMessage) : (s.afterTaking rest).active? = s.active? := rfl
@[simp] theorem State.afterTaking_rightsOf (s : State) (rest : List RxMessage) (a : Mac) :
    (s.afterTaking rest).rightsOf a = s.rightsOf a := rfl
@[simp] theorem State.afterTaking_checking (s : State) (rest : List RxMessage) : (s.afterTaking rest).checking = s.checking := rfl
@[simp] theorem State.afterTaking_tablesBusy (s : State) (rest : List RxMessage) : (s.afterTaking rest).tablesBusy = s.tablesBusy := rfl
@[simp] theorem State.afterTaking_tables (s : State) (rest : List RxMessage) : (s.afterTaking rest).tables = s.tables := rfl
@[simp] theorem State.afterTaking_loop (s : State) (rest : List RxMessage) : (s.afterTaking rest).loop = s.loop := rfl
@[simp] theorem State.afterTaking_request (s : State) (rest : List RxMessage) : (s.afterTaking rest).request = s.request := rfl
@[simp] theorem State.afterTaking_filter (s : State) (rest : List RxMessage) : (s.afterTaking rest).filter = s.filter := rfl
@[simp] theorem State.afterTaking_report (s : State) (rest : List RxMessage) : (s.afterTaking rest).report = s.report := rfl

/-- An answer to the message as taken is the one reply of R165. -/
@[simp] theorem State.answer_taken (s : State) (x : RxMessage) (kind : Byte) (code : ReplyCode) (data : List Byte) :
    s.answer x.taken kind code data = s.repliedTo x kind code data := rfl
@[simp] theorem State.refuse_taken (s : State) (x : RxMessage) (kind : Byte) (code : ReplyCode) :
    s.refuse x.taken kind code = s.repliedTo x kind code [] := rfl

/-- A management request at the head of the queue: rights, form, and then the rule that owns it (R167, R168). -/
theorem State.management_offers (s : State) (x : RxMessage) (rest : List RxMessage) (kind : Byte) (allowed : Rights → Bool)
    (form : List Byte → Bool) (rule : State → Taken → State) (h : s.offers x rest kind) :
    s.management kind allowed form rule =
      if !allowed (s.rightsOf x.source) then (s.afterTaking rest).repliedTo x kind .refusedRights []
      else if !form x.content then (s.afterTaking rest).repliedTo x kind .badFormat []
      else rule (s.afterTaking rest) x.taken := by
  simp [State.management, s.takeMessage_offers x rest kind _ h]

/-- Without such a message at the head of the queue nothing changes, whatever the rule. -/
theorem State.management_cases (s : State) (kind : Byte) (allowed : Rights → Bool) (form : List Byte → Bool)
    (rule : State → Taken → State) :
    s.management kind allowed form rule = s
      ∨ ∃ x rest, s.offers x rest kind
          ∧ (s.management kind allowed form rule = (s.afterTaking rest).repliedTo x kind .refusedRights []
            ∨ s.management kind allowed form rule = (s.afterTaking rest).repliedTo x kind .badFormat []
            ∨ s.management kind allowed form rule = rule (s.afterTaking rest) x.taken) := by
  cases hq : s.desk.receiveQueue with
  | nil => exact .inl (by simp [State.management, State.takeMessage, hq])
  | cons x rest =>
    by_cases hk : x.kind = kind
    · have h : s.offers x rest kind := ⟨hq, hk⟩
      refine .inr ⟨x, rest, h, ?_⟩
      rw [s.management_offers x rest kind allowed form rule h]
      split
      · exact .inl rfl
      · split
        · exact .inr (.inl rfl)
        · exact .inr (.inr rfl)
    · exact .inl (by simp [State.management, State.takeMessage, hq, hk])

/-- A control message at the head of the queue: handed on, or dropped and counted (R167). -/
theorem State.control_offers (s : State) (x : RxMessage) (rest : List RxMessage) (kind : Byte) (form : List Byte → Bool)
    (rule : State → Taken → State) (h : s.offers x rest kind) :
    s.control kind form rule =
      if s.rightsOf x.source = .control ∧ form x.content = true then rule (s.afterTaking rest) x.taken
      else (s.afterTaking rest).onDesk DeskPort.dropControl := by
  have h1 := s.takeMessage_offers x rest kind (fun k => decide (k = kind)) h (by simp)
  simp only [State.control, h1]
  rfl

/-- What a control message can do. -/
theorem State.control_cases (s : State) (kind : Byte) (form : List Byte → Bool) (rule : State → Taken → State) :
    s.control kind form rule = s
      ∨ ∃ x rest, s.offers x rest kind
          ∧ (s.control kind form rule = (s.afterTaking rest).onDesk DeskPort.dropControl
            ∨ s.control kind form rule = rule (s.afterTaking rest) x.taken) := by
  cases hq : s.desk.receiveQueue with
  | nil => exact .inl (by simp [State.control, State.takeMessage, hq])
  | cons x rest =>
    by_cases hk : x.kind = kind
    · have h : s.offers x rest kind := ⟨hq, hk⟩
      refine .inr ⟨x, rest, h, ?_⟩
      rw [s.control_offers x rest kind form rule h]
      split
      · exact .inr rfl
      · exact .inl rfl
    · exact .inl (by simp [State.control, State.takeMessage, hq, hk])

/-- BUSY while a check is in progress (R168). -/
theorem State.unlessChecking_cases (s : State) (x : Taken) (kind : Byte) (rule : State → Taken → State) :
    s.unlessChecking x kind rule = s.refuse x kind .busy ∨ s.unlessChecking x kind rule = rule s x := by
  unfold State.unlessChecking
  split
  · exact .inl rfl
  · exact .inr rfl

end Sys2Proof.Machine
end

