-- ==== Sys2Proof/Laws/Memory.lean ====
section
/-! SUPPORT. The bank memory (R141, R144): a read after a write, and the canonical form, which every operation keeps. -/

namespace Sys2Proof.Machine

/-- An address that no cell lists reads as 0. -/
theorem Memory.read_unlisted (m : Memory) (a : Nat) (h : ∀ c ∈ m, c.1 ≠ a) : m.read a = 0 := by
  induction m with
  | nil => rfl
  | cons c rest ih =>
    rw [Memory.read, if_neg (h c List.mem_cons_self)]
    exact ih fun d hd => h d (List.mem_cons_of_mem c hd)

/-- A write of one byte changes the reading of its own address alone. -/
theorem Memory.read_write (m : Memory) (h : m.wf = true) (a : Nat) (v : Byte) (x : Nat) :
    (m.write a v).read x = if x = a then v else m.read x := by
  induction m with
  | nil =>
    by_cases hv : v = 0#8
    · by_cases hx : x = a <;> simp [Memory.write, Memory.read, hv, hx]
    · by_cases hx : x = a
      · simp [Memory.write, Memory.read, hv, hx]
      · simp [Memory.write, Memory.read, hv, hx, Ne.symm hx]
  | cons c rest ih =>
    obtain ⟨k, b⟩ := c
    simp only [Memory.wf, Bool.and_eq_true, decide_eq_true_eq, List.all_eq_true] at h
    obtain ⟨⟨hb, hall⟩, hrest⟩ := h
    have hread : ∀ y, y ≤ k → Memory.read rest y = 0 := by
      intro y hy
      clear ih hb
      induction rest with
      | nil => rfl
      | cons d ds ihd =>
        obtain ⟨k', b'⟩ := d
        have hk := hall (k', b') (by simp)
        simp only [Memory.wf, Bool.and_eq_true] at hrest
        have hne : k' ≠ y := by simp at hk; omega
        simp only [Memory.read, hne, if_false]
        exact ihd hrest.2 (fun c hc => hall c (by simp [hc]))
    simp only [Memory.write]
    by_cases h1 : a < k
    · by_cases hv : v = 0#8
      · by_cases hx : x = a
        · subst hx
          simp [h1, hv, Memory.read, show k ≠ x by omega, hread x (by omega)]
        · simp [h1, hv, Memory.read, hx]
      · by_cases hx : x = a
        · simp [h1, hv, Memory.read, hx]
        · simp [h1, hv, Memory.read, hx, Ne.symm hx]
    · by_cases h2 : k = a
      · subst h2
        by_cases hv : v = 0#8
        · by_cases hx : x = k
          · subst hx; simp [hv, hread x (by omega)]
          · simp [hv, Memory.read, hx, Ne.symm hx]
        · by_cases hx : x = k
          · simp [hv, Memory.read, hx]
          · simp [hv, Memory.read, hx, Ne.symm hx]
      · by_cases hk : k = x
        · subst hk
          simp [h1, h2, Memory.read]
        · simp only [h1, h2, Memory.read, hk, if_false]
          exact ih hrest

/-- Where a write puts its keys: every key of the list is the address written or a key of the list before. -/
theorem Memory.write_keys (m : Memory) (a : Nat) (v : Byte) (c : Host.Cell) (h : c ∈ m.write a v) : c.1 = a ∨ ∃ b, (c.1, b) ∈ m := by
  induction m with
  | nil =>
    by_cases hv : v = 0#8 <;> simp [Memory.write, hv] at h
    subst h
    exact .inl rfl
  | cons d rest ih =>
    obtain ⟨k, b⟩ := d
    simp only [Memory.write] at h
    by_cases h1 : a < k
    · by_cases hv : v = 0#8 <;> simp [h1, hv] at h
      · rcases h with rfl | h
        · exact .inr ⟨b, by simp⟩
        · exact .inr ⟨c.2, by simp [h]⟩
      · rcases h with rfl | rfl | h
        · exact .inl rfl
        · exact .inr ⟨b, by simp⟩
        · exact .inr ⟨c.2, by simp [h]⟩
    · by_cases h2 : k = a
      · by_cases hv : v = 0#8 <;> simp [h2, hv] at h
        · exact .inr ⟨c.2, by simp [h]⟩
        · rcases h with rfl | h
          · exact .inl rfl
          · exact .inr ⟨c.2, by simp [h]⟩
      · simp [h1, h2] at h
        rcases h with rfl | h
        · exact .inr ⟨b, by simp⟩
        · rcases ih h with h' | ⟨b', h'⟩
          · exact .inl h'
          · exact .inr ⟨b', by simp [h']⟩

/-- A write keeps the canonical form. -/
theorem Memory.wf_write (m : Memory) (h : m.wf = true) (a : Nat) (v : Byte) : (m.write a v).wf = true := by
  induction m with
  | nil => by_cases hv : v = 0#8 <;> simp [Memory.write, Memory.wf, hv]
  | cons d rest ih =>
    obtain ⟨k, b⟩ := d
    have h0 := h
    simp only [Memory.wf, Bool.and_eq_true, decide_eq_true_eq, List.all_eq_true] at h
    obtain ⟨⟨hb, hall⟩, hrest⟩ := h
    simp only [Memory.write]
    by_cases h1 : a < k
    · by_cases hv : v = 0#8
      · simpa [h1, hv] using h0
      · simp only [h1, hv, BitVec.ofNat_eq_ofNat, if_true, if_false, Memory.wf, Bool.and_eq_true, decide_eq_true_eq, List.all_eq_true]
        refine ⟨⟨hv, ?_⟩, ⟨hb, hall⟩, hrest⟩
        intro c hc
        simp only [List.mem_cons] at hc
        rcases hc with rfl | hc
        · exact h1
        · exact Nat.lt_trans h1 (hall c hc)
    · by_cases h2 : k = a
      · by_cases hv : v = 0#8
        · simpa [h2, hv] using hrest
        · subst h2
          simp only [Nat.lt_irrefl, hv, BitVec.ofNat_eq_ofNat, if_true, if_false, Memory.wf, Bool.and_eq_true, decide_eq_true_eq, List.all_eq_true]
          exact ⟨⟨hv, hall⟩, hrest⟩
      · simp only [h1, h2, if_false, Memory.wf, Bool.and_eq_true, decide_eq_true_eq, List.all_eq_true]
        refine ⟨⟨hb, ?_⟩, ih hrest⟩
        intro c hc
        rcases Memory.write_keys rest a v c hc with hc' | ⟨b', hc'⟩
        · omega
        · exact hall (c.1, b') hc'

/-- A run of bytes keeps the canonical form. -/
theorem Memory.wf_writeBytes (bs : List Byte) (m : Memory) (h : m.wf = true) (a : Nat) : (m.writeBytes a bs).wf = true := by
  induction bs generalizing m a with
  | nil => exact h
  | cons v rest ih => exact ih _ (Memory.wf_write m h a v) _

/-- A run of bytes changes the reading of its own addresses alone. -/
theorem Memory.read_writeBytes (bs : List Byte) (m : Memory) (h : m.wf = true) (a x : Nat) :
    (m.writeBytes a bs).read x = if a ≤ x ∧ x < a + bs.length then bs.getD (x - a) 0 else m.read x := by
  induction bs generalizing m a with
  | nil => simp [Memory.writeBytes]
  | cons v rest ih =>
    simp only [Memory.writeBytes, ih _ (Memory.wf_write m h a v), Memory.read_write m h, List.length_cons]
    by_cases hx : x = a
    · subst hx; simp
    · by_cases hr : a + 1 ≤ x ∧ x < a + 1 + rest.length
      · rw [if_pos hr, if_pos (by omega)]
        obtain ⟨d, rfl⟩ : ∃ d, x = a + 1 + d := ⟨x - (a + 1), by omega⟩
        rw [show a + 1 + d - (a + 1) = d by omega, show a + 1 + d - a = d + 1 by omega, List.getD_cons_succ]
      · rw [if_neg hr, if_neg (show ¬(a ≤ x ∧ x < a + (rest.length + 1)) by omega), if_neg hx]

/-- Loading entries keeps the canonical form (R146). -/
theorem Bank.wf_load (b : Bank) (h : b.memory.wf = true) (k : TableKind) (first : Nat) (bs : List Byte) :
    (b.load k first bs).memory.wf = true := Memory.wf_writeBytes bs _ h _

/-- The memories at reset are in canonical form. -/
theorem reset_memories_wf : State.reset.tables.bankA.memory.wf = true ∧ State.reset.tables.bankB.memory.wf = true := ⟨rfl, rfl⟩

end Sys2Proof.Machine
end

