-- ==== Sys2Proof/Laws/PerInstr.lean ====
section
/-! SUPPORT. Per command: the kind byte of a command that takes a desk message (R177) names that command and no other. -/

namespace Sys2Proof.Laws.Kinds

open Sys2Proof.Machine

/-- A message of the command's kind is taken by that command, and the kind is one that the desk sends (R165, R177). -/
def Statement (i : Instr) : Prop := ∀ k, messageKind i = some k → takingOf k = i ∧ knownKinds.contains k = true

theorem powerOn (straps : Byte) (outen : Bool) (link : Bool) : Statement (.powerOn straps outen link) := by
  intro k h
  cases h

theorem resetPin : Statement .resetPin := by
  intro k h
  cases h

theorem outenChange (high : Bool) : Statement (.outenChange high) := by
  intro k h
  cases h

theorem linkStatusChange (up : Bool) : Statement (.linkStatusChange up) := by
  intro k h
  cases h

theorem sweepDue : Statement .sweepDue := by
  intro k h
  cases h

theorem enterDown : Statement .enterDown := by
  intro k h
  cases h

theorem retryWaitExpiry : Statement .retryWaitExpiry := by
  intro k h
  cases h

theorem restartSurveyDelay : Statement .restartSurveyDelay := by
  intro k h
  cases h

theorem loopInFrame (frame : List Byte) : Statement (.loopInFrame frame) := by
  intro k h
  cases h

theorem cardOutageUnknown (position : Nat) (stamp : Stamp) : Statement (.cardOutageUnknown position stamp) := by
  intro k h
  cases h

theorem debounceSettle (input : Nat) (sweepTime : Stamp) : Statement (.debounceSettle input sweepTime) := by
  intro k h
  cases h

theorem measurementComplete (sweepTime : Stamp) : Statement (.measurementComplete sweepTime) := by
  intro k h
  cases h

theorem flasherStopped (sweepTime : Stamp) : Statement (.flasherStopped sweepTime) := by
  intro k h
  cases h

theorem transitCountOut (pair : Nat) (sweepTime : Stamp) : Statement (.transitCountOut pair sweepTime) := by
  intro k h
  cases h

theorem stepTiming : Statement .stepTiming := by
  intro k h
  cases h

theorem proofTimeExpiry : Statement .proofTimeExpiry := by
  intro k h
  cases h

theorem watchdogExpiry : Statement .watchdogExpiry := by
  intro k h
  cases h

theorem reportPeriodExpiry : Statement .reportPeriodExpiry := by
  intro k h
  cases h

theorem checkCompletion : Statement .checkCompletion := by
  intro k h
  cases h

theorem deskFrameReceived (frame : List Byte) : Statement (.deskFrameReceived frame) := by
  intro k h
  cases h

theorem frameSend : Statement .frameSend := by
  intro k h
  cases h

theorem unknownKind : Statement .unknownKind := by
  intro k h
  cases h

theorem identify : Statement .identify := by
  intro k h
  cases h
  exact ⟨rfl, rfl⟩

theorem readStatus : Statement .readStatus := by
  intro k h
  cases h
  exact ⟨rfl, rfl⟩

theorem readStatistics : Statement .readStatistics := by
  intro k h
  cases h
  exact ⟨rfl, rfl⟩

theorem clearStatistics : Statement .clearStatistics := by
  intro k h
  cases h
  exact ⟨rfl, rfl⟩

theorem restart : Statement .restart := by
  intro k h
  cases h
  exact ⟨rfl, rfl⟩

theorem writeTable : Statement .writeTable := by
  intro k h
  cases h
  exact ⟨rfl, rfl⟩

theorem readTable : Statement .readTable := by
  intro k h
  cases h
  exact ⟨rfl, rfl⟩

theorem copyActive : Statement .copyActive := by
  intro k h
  cases h
  exact ⟨rfl, rfl⟩

theorem clearStandby : Statement .clearStandby := by
  intro k h
  cases h
  exact ⟨rfl, rfl⟩

theorem checkTables : Statement .checkTables := by
  intro k h
  cases h
  exact ⟨rfl, rfl⟩

theorem switchTables : Statement .switchTables := by
  intro k h
  cases h
  exact ⟨rfl, rfl⟩

theorem setTime : Statement .setTime := by
  intro k h
  cases h
  exact ⟨rfl, rfl⟩

theorem forceInput : Statement .forceInput := by
  intro k h
  cases h
  exact ⟨rfl, rfl⟩

theorem releaseInput : Statement .releaseInput := by
  intro k h
  cases h
  exact ⟨rfl, rfl⟩

theorem readmitCard : Statement .readmitCard := by
  intro k h
  cases h
  exact ⟨rfl, rfl⟩

theorem resurvey : Statement .resurvey := by
  intro k h
  cases h
  exact ⟨rfl, rfl⟩

theorem measureFlasher : Statement .measureFlasher := by
  intro k h
  cases h
  exact ⟨rfl, rfl⟩

theorem clearOutputBlock : Statement .clearOutputBlock := by
  intro k h
  cases h
  exact ⟨rfl, rfl⟩

theorem keepalive : Statement .keepalive := by
  intro k h
  cases h
  exact ⟨rfl, rfl⟩

theorem operate : Statement .operate := by
  intro k h
  cases h
  exact ⟨rfl, rfl⟩

theorem cancel : Statement .cancel := by
  intro k h
  cases h
  exact ⟨rfl, rfl⟩

end Sys2Proof.Laws.Kinds
end

