-- ==== Sys2Proof/Laws/Sweeps.lean ====
section
/-! SUPPORT. The sending of a sweep and the loss of one, each said once (R1, R11, R129, R133). -/

namespace Sys2Proof.Machine

/-- The carrying of outputs changes nothing of the request engine but the carried states (R133). -/
theorem RequestEngine.carry_fold_frame (on ks : List Nat) (r : RequestEngine) :
    { (ks.foldl (fun r k => r.carry k (on.contains k)) r) with carried := r.carried } = r := by
  induction ks generalizing r with
  | nil => rfl
  | cons k ks ih =>
    simp only [List.foldl_cons]
    have h2 := congrArg (fun x : RequestEngine => { x with carried := r.carried }) (ih (r.carry k (on.contains k)))
    have h3 : { (r.carry k (on.contains k)) with carried := r.carried } = r := by
      unfold RequestEngine.carry
      split <;> rfl
    exact h2.trans h3

theorem RequestEngine.carry_fold_occupied (on ks : List Nat) (r : RequestEngine) :
    (ks.foldl (fun r k => r.carry k (on.contains k)) r).occupied = r.occupied := by
  have h := congrArg RequestEngine.slots (RequestEngine.carry_fold_frame on ks r)
  simp only at h
  simp only [RequestEngine.occupied, h]

/-- A sum of powers of two under distinct exponents holds the bits that are asked for. -/
theorem sum_of_bits (f : Nat → Bool) (n : Nat) :
    ((List.range n).map fun j => if f j then 2 ^ j else 0).sum < 2 ^ n
      ∧ ∀ j, j < n → (((List.range n).map fun j => if f j then 2 ^ j else 0).sum).testBit j = f j := by
  induction n with
  | zero => simp
  | succ n ih =>
    obtain ⟨h1, h2⟩ := ih
    rw [List.range_succ, List.map_append, List.sum_append]
    simp only [List.map_cons, List.map_nil, List.sum_cons, List.sum_nil, Nat.add_zero]
    generalize ((List.range n).map fun j => if f j then 2 ^ j else 0).sum = x at h1 h2 ⊢
    refine ⟨by rw [Nat.pow_succ]; split <;> omega, fun j hj => ?_⟩
    by_cases hjn : j = n
    · subst hjn
      split
      · rename_i h
        rw [Nat.add_comm, Nat.testBit_two_pow_add_eq, Nat.testBit_lt_two_pow h1, h]
        rfl
      · rename_i h
        rw [Nat.add_zero, Nat.testBit_lt_two_pow h1]
        simpa using h
    · split
      · rw [Nat.add_comm, Nat.testBit_two_pow_add_gt (by omega)]
        exact h2 j (by omega)
      · exact h2 j (by omega)

/-- Bit j of an output section is set for the outputs that the set holds (R175, R179). -/
theorem outputBits_getLsbD (on : List Nat) (p j : Nat) (hj : j < 16) :
    (outputBits on p).getLsbD j = decide (outputKey p j ∈ on) := by
  obtain ⟨-, h⟩ := sum_of_bits (fun j => on.contains (outputKey p j)) 16
  unfold outputBits
  rw [BitVec.getLsbD_ofNat, h j hj]
  simp [hj]

/-- One output's carrying (R133). -/
theorem RequestEngine.carry_carriedOf (r : RequestEngine) (key : Nat) (on : Bool) (k : Nat) :
    (r.carry key on).carriedOf k =
      if k = key then if (r.carriedOf k).state = some on then r.carriedOf k else { state := some on, grace := 2 }
      else r.carriedOf k := by
  unfold RequestEngine.carry
  split
  · split
    · rename_i h1 h2
      subst h2
      rw [if_pos h1]
    · rfl
  · rw [RequestEngine.carriedOf_put]
    split
    · rename_i h1 h2
      subst h2
      rw [if_neg h1]
    · rfl

/-- The carried states once a sweep has carried the outputs `ks` (R133). -/
theorem RequestEngine.carry_fold_carriedOf (on ks : List Nat) (r : RequestEngine) (k : Nat) :
    (ks.foldl (fun r k => r.carry k (on.contains k)) r).carriedOf k =
      if k ∈ ks then
        if (r.carriedOf k).state = some (on.contains k) then r.carriedOf k else { state := some (on.contains k), grace := 2 }
      else r.carriedOf k := by
  induction ks generalizing r with
  | nil => simp
  | cons j ks ih =>
    rw [List.foldl_cons, ih, RequestEngine.carry_carriedOf]
    by_cases hk : k = j
    · subst hk
      simp only [List.mem_cons, true_or, if_true]
      split
      · split <;> simp_all
      · rfl
    · simp [hk]

/-- A sweep sent changes nothing of the request engine but the slots, the outcome list and the carried states. -/
theorem State.sweepSent_request (s : State) (b : Bank) (on : List Nat) :
    { (s.sweepSent b on).request with
      carried := s.request.carried, slots := s.request.slots, outcomes := s.request.outcomes } = s.request := by
  have h := RequestEngine.carry_fold_frame on (b.memory.outputPositions.flatMap fun p => (List.range 16).map (outputKey p))
    (s.request.bringUpToDate b (fun sl => ({ sl with count := sl.count + 1 }).updateSteps b) s.now)
  exact congrArg
    (fun x : RequestEngine => { x with carried := s.request.carried, slots := s.request.slots, outcomes := s.request.outcomes }) h

/-- Every slot occupied after a sweep has left was occupied before it, under its tag and point, and has counted it (R129). -/
theorem State.sweepSent_occupied (s : State) (b : Bank) (on : List Nat) (sl' : Slot) (h : sl' ∈ (s.sweepSent b on).request.occupied) :
    ∃ sl ∈ s.request.occupied, sl'.tag = sl.tag ∧ sl'.point = sl.point ∧ sl'.count = sl.count + 1 := by
  unfold State.sweepSent at h
  simp only [State.onRequest_request, RequestEngine.carry_fold_occupied, RequestEngine.bringUpToDate_occupied, List.mem_map,
    List.mem_filter] at h
  obtain ⟨sl, ⟨h1, _⟩, rfl⟩ := h
  refine ⟨sl, h1, ?_⟩
  unfold Slot.goOn Slot.updateSteps
  split <;> exact ⟨rfl, rfl, rfl⟩

/-- With nothing waiting, no resurvey is applied (R20, R21). -/
theorem Event.applyResurvey_idle (e : Event) (h1 : e.st.loop.pendingResurvey = false) (h2 : e.st.loop.pendingReadmit = []) :
    e.applyResurvey = e := by simp [Event.applyResurvey, h1, h2]

/-- The next sweep, with a bank active (R1). -/
theorem State.sendSweep_active_eq (s : State) (b : Bank) (hb : s.active? = some b) :
    s.sendSweep =
      (s.onLoop fun l =>
        { l with
          inFlight := some (s.nextSweep b.memory), sweepNumber := (s.nextSweep b.memory).number, phase := (l.phase + 1) % 4,
          sweepsSent := l.sweepsSent + 1, sweepTimer := some b.memory.sweepPeriod,
          loopOut := sweepFrame (s.nextSweep b.memory) b.memory.outputPositions s.commandedOn }).sweepSent b s.commandedOn := by
  simp [State.sendSweep, hb]

@[simp] theorem LoopController.loseSweep_lostCount (l : LoopController) (m : Memory) (sw : Sweep) :
    (l.loseSweep m sw).lostCount = l.lostCount + 1 := by
  unfold LoopController.loseSweep
  dsimp only
  split <;> rfl

/-- The loop controller once a sweep has been judged lost (R1, R18). -/
theorem Event.loseSweep_loop (e : Event) (b : Bank) (sw : Sweep) :
    (e.loseSweep b sw).st.loop =
      if 3 ≤ e.st.loop.lostCount + 1 then (e.st.loop.loseSweep b.memory sw).enterDown else e.st.loop.loseSweep b.memory sw := by
  unfold Event.loseSweep
  simp

/-- What a lost sweep leaves as it was. -/
theorem Event.loseSweep_frame (e : Event) (b : Bank) (sw : Sweep) :
    (e.loseSweep b sw).st.tables = e.st.tables ∧ (e.loseSweep b sw).st.desk = e.st.desk ∧ (e.loseSweep b sw).st.clock = e.st.clock
      ∧ (e.loseSweep b sw).st.pending = e.st.pending ∧ (e.loseSweep b sw).st.report = e.st.report := by
  unfold Event.loseSweep
  simp

/-- A position's record after missed reads have been counted (R11). -/
theorem LoopController.countMissed_position (l : LoopController) (which : Nat → Bool) (h : l.positions.length = 32) (p : Nat)
    (hp : p < 32) : (l.countMissed which).position p = if which p then (l.position p).miss else l.position p := by
  simp [LoopController.countMissed, LoopController.position, List.getD_eq_getElem?_getD, h, hp]

/-- The lowest-numbered free slot is the one occupied (R127). -/
theorem occupy_lowest (sl : Slot) (xs : List (Option Slot)) (h : ∃ k : Nat, xs[k]? = some none) :
    ∃ k : Nat, xs[k]? = some none ∧ (∀ j, j < k → xs[j]? ≠ some none) ∧ occupy sl xs = xs.set k (some sl) := by
  induction xs with
  | nil => simp at h
  | cons x xs ih =>
    cases x with
    | none => exact ⟨0, rfl, by simp, rfl⟩
    | some y =>
      obtain ⟨k, hk⟩ := h
      cases k with
      | zero => simp at hk
      | succ k =>
        obtain ⟨k, h1, h2, h3⟩ := ih ⟨k, by simpa using hk⟩
        refine ⟨k + 1, by simpa using h1, ?_, by simp [occupy, h3]⟩
        intro j hj
        cases j with
        | zero => simp
        | succ j => simpa using h2 j (by omega)

end Sys2Proof.Machine
end

