-- ==== Sys2Proof/Laws/Tables.lean ====
section
/-! SUPPORT. The replacement of the standby bank (R141, R146, R148 to R150), said once. -/

namespace Sys2Proof.Machine

@[simp] theorem TableStore.standby_setStandby (t : TableStore) (b : Bank) : (t.setStandby b).standby = b := by
  rcases t with ⟨_, _, sel, _, _⟩
  rcases sel with _ | _ | _ <;> rfl

/-- The other bank is left as it was. -/
theorem TableStore.bank_setStandby (t : TableStore) (b : Bank) (n : BankName) (h : n ≠ t.standbyName) :
    (t.setStandby b).bank n = t.bank n := by
  rcases t with ⟨_, _, sel, _, _⟩
  rcases sel with _ | _ | _ <;> cases n <;> first | rfl | exact absurd rfl h

@[simp] theorem TableStore.setStandby_selection (t : TableStore) (b : Bank) : (t.setStandby b).selection = t.selection := by
  rcases t with ⟨_, _, sel, _, _⟩
  rcases sel with _ | _ | _ <;> rfl

@[simp] theorem TableStore.setStandby_check (t : TableStore) (b : Bank) : (t.setStandby b).check = t.check := by
  rcases t with ⟨_, _, sel, _, _⟩
  rcases sel with _ | _ | _ <;> rfl

@[simp] theorem TableStore.setStandby_switchPending (t : TableStore) (b : Bank) : (t.setStandby b).switchPending = t.switchPending := by
  rcases t with ⟨_, _, sel, _, _⟩
  rcases sel with _ | _ | _ <;> rfl

/-- The standby bank put in its own place. -/
theorem TableStore.setStandby_self (t : TableStore) : t.setStandby t.standby = t := by
  rcases t with ⟨_, _, sel, _, _⟩
  rcases sel with _ | _ | _ <;> rfl

/-- The active bank is never the standby (R141). -/
theorem TableStore.standbyName_ne (t : TableStore) (n : BankName) (h : t.selection = some n) : n ≠ t.standbyName := by
  cases n <;> simp [TableStore.standbyName, h]

/-- After a message has been taken, the table store is free where it was (R146). -/
theorem State.afterTaking_free (s : State) (rest : List RxMessage) (h1 : s.checking = false) (h2 : s.tables.switchPending = false) :
    (s.afterTaking rest).tablesBusy = false := by
  show (s.checking || s.tables.switchPending) = false
  simp [h1, h2]

/-- And busy where it was. -/
theorem State.afterTaking_busy (s : State) (rest : List RxMessage) (h : s.checking = true ∨ s.tables.switchPending = true) :
    (s.afterTaking rest).tablesBusy = true := by
  show (s.checking || s.tables.switchPending) = true
  rcases h with h | h <;> simp [h]

/-- A management request within its sender's rights and of a good form comes to the rule that owns it (R168). -/
theorem State.management_taken (s : State) (x : RxMessage) (rest : List RxMessage) (kind : Byte) (allowed : Rights → Bool)
    (form : List Byte → Bool) (rule : State → Taken → State) (h : s.offers x rest kind)
    (ha : allowed (s.rightsOf x.source) = true) (hf : form x.content = true) :
    s.management kind allowed form rule = rule (s.afterTaking rest) x.taken := by
  rw [s.management_offers x rest kind allowed form rule h]
  simp [ha, hf]

/-! ### The first finding of a check (R152) -/

/-- There is a first finding wherever there is a finding. -/
theorem firstFinding_eq_none (fs : List Finding) : firstFinding fs = none ↔ fs = [] := by
  cases fs with
  | nil => simp [firstFinding]
  | cons f fs =>
    simp only [firstFinding]
    split
    · simp
    · split <;> simp

/-- The first finding is one of the findings, and none has a lower place (R152). -/
theorem firstFinding_least (fs : List Finding) (f : Finding) (h : firstFinding fs = some f) :
    f ∈ fs ∧ ∀ g ∈ fs, f.place ≤ g.place := by
  induction fs generalizing f with
  | nil => cases h
  | cons a fs ih =>
    simp only [firstFinding] at h
    cases hl : firstFinding fs with
    | none =>
      rw [hl] at h
      cases h
      simp [(firstFinding_eq_none fs).1 hl]
    | some g =>
      rw [hl] at h
      obtain ⟨h1, h2⟩ := ih g hl
      simp only at h
      split at h
      all_goals
        cases h
        refine ⟨by simp [h1], fun x hx => ?_⟩
        rcases List.mem_cons.1 hx with rfl | hx
        · omega
        · have := h2 x hx
          omega

end Sys2Proof.Machine
end

