-- ==== Sys2Proof/Machine/Card.lean ====
section
/-! DEFINITION. The scan cards as the 7120 relies on them (R4 to R6, R175). The cards are separate products (section 0.3) and no part of
the part's state: what they return reaches it as the bytes of LOOP_IN_FRAME. These functions say which bytes a sound ring returns. -/

namespace Sys2Proof.Machine

/-- A scan card: how it names itself, its wetting supply, its other seven status flags, the inputs it finds energised, its output
contacts as it has set them, those of them that have failed open or closed, and the milliseconds since its last sweep with a good check
(R5, R6). -/
structure ScanCard where
  card : Card
  supplyLow : Bool
  otherFlags : BitVec 7
  inputs : BitVec 64
  outputs : Word16
  stuckOpen : Word16
  stuckClosed : Word16
  sinceGood : Nat
deriving DecidableEq, Repr

/-- The output contacts that are actually closed (R6): as the card has set them, but for those that have failed (log entry 24). -/
def ScanCard.closed (c : ScanCard) : Word16 := (c.outputs &&& ~~~c.stuckOpen) ||| c.stuckClosed

/-- The hop counter once one more card has passed the frame on (R4): it stops at 255. -/
def nextHop (frame : List Byte) : Nat := min 255 (frameHops frame + 1)

/-- The position that a card takes from a passing frame (R4). -/
def positionAt (frame : List Byte) : Nat := nextHop frame - 1

/-- The sweep asks the card that takes position `p` to report (R4): it is a SURVEY, or its read mask names `p`. -/
def asksPosition (frame : List Byte) (p : Nat) : Bool :=
  decide (byteAt frame 0 = SweepKind.survey.code) || (decide (p < 32) && (fieldAt frame 6 4).testBit p)

/-- The value field of a report (R6, R175): an input card's inputs, or an output card's readbacks and six bytes of zero. -/
def ScanCard.values (c : ScanCard) : List Byte :=
  if c.card.cardType = 2 then toBytes 2 c.closed.toNat ++ List.replicate 6 0 else toBytes 8 c.inputs.toNat

/-- The status flags of a report (R6): bit 0 is SUPPLY_LOW (R175). DESIGN CHOICE (log entry 40): the spec gives bits 1 to 7 no names and
no values, so they are data of the card, any value of which its reports may carry; the part does not read them (R175). -/
def ScanCard.statusFlags (c : ScanCard) : Byte := c.otherFlags ++ BitVec.ofBool c.supplyLow

/-- The report of a card that stands at position `p` (R6, R175, R176). -/
def ScanCard.report (c : ScanCard) (p : Nat) : List Byte :=
  let fields := [BitVec.ofNat 8 p, c.card.cardType] ++ toBytes 4 c.card.identity.toNat ++ [c.statusFlags] ++ c.values
  fields ++ toBytes 2 (crc16 fields).toNat

/-- The state of the 16 outputs that a frame commands at position `p` (R5): those of the section that carries `p`, all off without
one. `n` is how many sections are still to be read, from offset `offset` on. -/
def commandedAt (frame : List Byte) (p : Nat) : Nat → Nat → Word16
  | 0, _ => 0
  | n + 1, offset => if (byteAt frame offset).toNat = p then BitVec.ofNat 16 (fieldAt frame (offset + 1) 2) else commandedAt frame p n (offset + 3)

/-- An output card takes its section (R5). -/
def ScanCard.takeSection (c : ScanCard) (frame : List Byte) (p : Nat) : ScanCard :=
  if c.card.cardType = 2 then { c with outputs := commandedAt frame p (byteAt frame 11).toNat 14, sinceGood := 0 } else { c with sinceGood := 0 }

/-- A frame passes a card (R4, R5): the hop counter rises; with a good sweep check the card appends its report where it is asked, its
readbacks sampled before it takes its section. -/
def ScanCard.pass (c : ScanCard) (frame : List Byte) : List Byte × ScanCard :=
  let passed := frame.set 10 (BitVec.ofNat 8 (nextHop frame))
  if !sweepCheckHolds frame then (passed, c)
  else
    (if asksPosition frame (positionAt frame) then passed ++ c.report (positionAt frame) else passed,
      c.takeSection frame (positionAt frame))

/-- A frame passes the cards of a ring, in their order (R4): what returns at LOOP IN, and the cards after it. -/
def passRing : List ScanCard → List Byte → List Byte × List ScanCard
  | [], frame => (frame, [])
  | c :: cs, frame =>
    let x := c.pass frame
    let rest := passRing cs x.1
    (rest.1, x.2 :: rest.2)

/-- One millisecond passes at a card (R5): 100 ms after its last sweep with a good check an output card sets its outputs off. -/
def ScanCard.tick (c : ScanCard) : ScanCard :=
  { c with sinceGood := c.sinceGood + 1, outputs := if c.card.cardType = 2 ∧ 100 ≤ c.sinceGood + 1 then 0 else c.outputs }

end Sys2Proof.Machine
end

