-- ==== Sys2Proof/WellFormed.lean ====
section
/-! DEFINITION. The commands whose operands lie in the ranges of section 0.4.2 and in the lengths the links carry.
A command that is not well formed still has a meaning; the check says which commands the spec's links and counters can raise. -/

namespace Sys2Proof

/-- The operands lie in the spec's ranges: positions 0 to 31, mapped inputs 0 to 2047 (section 0.4.2); a frame at LOOP IN
is at least a header and a sweep check (R175); a received Ethernet frame holds at least its two addresses, its EtherType and
its FCS (R162). -/
def Instr.wf : Instr → Bool
  | .powerOn _ _ _ => true
  | .resetPin => true
  | .outenChange _ => true
  | .linkStatusChange _ => true
  | .sweepDue => true
  | .enterDown => true
  | .retryWaitExpiry => true
  | .restartSurveyDelay => true
  | .loopInFrame frame => decide (14 ≤ frame.length)
  | .cardOutageUnknown position _ => decide (position < 32)
  | .debounceSettle input _ => decide (input < 2048)
  | .measurementComplete _ => true
  | .flasherStopped _ => true
  | .transitCountOut pair _ => decide (pair < 2048)
  | .stepTiming => true
  | .proofTimeExpiry => true
  | .watchdogExpiry => true
  | .reportPeriodExpiry => true
  | .checkCompletion => true
  | .deskFrameReceived frame => decide (18 ≤ frame.length)
  | .frameSend => true
  | .unknownKind => true
  | .identify => true
  | .readStatus => true
  | .readStatistics => true
  | .clearStatistics => true
  | .restart => true
  | .writeTable => true
  | .readTable => true
  | .copyActive => true
  | .clearStandby => true
  | .checkTables => true
  | .switchTables => true
  | .setTime => true
  | .forceInput => true
  | .releaseInput => true
  | .readmitCard => true
  | .resurvey => true
  | .measureFlasher => true
  | .clearOutputBlock => true
  | .keepalive => true
  | .operate => true
  | .cancel => true

end Sys2Proof
end

