-- ==== Sys2Proof/Tests/Slice0.lean ====
section
/-! SUPPORT. The model's own tests: the well-formedness checks, values that the spec works out, and for each statement with hypotheses
a state and operands that meet them. -/

namespace Sys2Proof.Tests

open Sys2Proof Sys2Proof.Machine

-- One theorem after another: the witnesses together need less memory so.
set_option Elab.async false

/-! ### Well-formedness: each check refuses an ill-formed command -/

theorem test_wf_loop_frame : (Instr.loopInFrame (List.replicate 13 0)).wf = false := by decide
theorem test_wf_outage_position : (Instr.cardOutageUnknown 32 0).wf = false ∧ (Instr.cardOutageUnknown 31 0).wf = true := by decide
theorem test_wf_settle_input : (Instr.debounceSettle 2048 0).wf = false ∧ (Instr.debounceSettle 2047 0).wf = true := by decide
theorem test_wf_count_out_pair : (Instr.transitCountOut 2048 0).wf = false ∧ (Instr.transitCountOut 2047 0).wf = true := by decide
theorem test_wf_desk_frame : (Instr.deskFrameReceived (List.replicate 17 0)).wf = false := by decide

/-! ### No row of the table gives bits -/

theorem test_no_word_spells_a_command : decodeTableWord 0 0 = none := rfl
theorem test_fetch_word_changes_nothing : State.reset.withFetchWord 16 5 = State.reset := rfl

/-! ### Values the spec works out -/

/-- R176: the check over the nine ASCII bytes 123456789. -/
theorem test_crc16_of_the_spec : crc16 [0x31, 0x32, 0x33, 0x34, 0x35, 0x36, 0x37, 0x38, 0x39] = 0x29B1#16 := by decide +kernel
/-- R183: the bank CRC procedure over the same bytes. -/
theorem test_crc32_of_the_spec : crc32 [0x31, 0x32, 0x33, 0x34, 0x35, 0x36, 0x37, 0x38, 0x39] = 0xCBF43926#32 := by decide +kernel
/-- R24: landmarks of the time code scale. -/
theorem test_time_codes : decodeTime 50 = 100 ∧ decodeTime 100 = 200 ∧ decodeTime 150 = 1200 ∧ decodeTime 255 = 13200 := by decide
/-- R143, R144: the nine images fill the serialisation end to end. -/
theorem test_images_fill_the_serialisation :
    TableKind.positions.base = TableKind.globals.base + TableKind.globals.entries * TableKind.globals.entrySize
      ∧ TableKind.issue.base + TableKind.issue.entries * TableKind.issue.entrySize = serialisationLength := by decide
/-- R3: the read intervals. -/
theorem test_read_intervals : phaseInterval 15 = some 1 ∧ phaseInterval 10 = some 2 ∧ phaseInterval 4 = some 4 ∧ phaseInterval 3 = none := by
  decide
/-- R71: a pair whose contacts both read open is in transit, and both closed is a fault. -/
theorem test_pair_rows :
    PairState.up.evaluate 5 (some .opened, .good) (some .opened, .good) = .transit
      ∧ PairState.up.evaluate 0 (some .opened, .good) (some .opened, .good) = .openFault
      ∧ PairState.down.evaluate 5 (some .closed, .good) (some .closed, .good) = .closedFault
      ∧ PairState.down.evaluate 5 (some .closed, .good) (none, .unknown) = .unknown := by decide

/-! ### Small states

Bank `bank` gives T_s = 8 ms, report period 20 ms, L_q = 64, n = 1, a one-shot flasher with input 2 as its reference, changeover pair
0 (inputs 0 and 1), object 0 with the one term CONDITION 0 and the fallback 9, an input card at position 0, an output card at position 1, request point 5 (one step, output 3 of position 1, no
proof), request point 6 (one step, output 4 of position 1, its proof input 2 CLOSED), two stations and the TI item "A". -/

/-- GLOBALS, POSITIONS, CONTACT_MAP and OBJECTS of `bank`. -/
def contactCells : Memory := [(0, 8), (2, 20), (4, 64), (6, 1), (7, 100), (8, 2), (9, 140), (11, 2), (14, 2), (19, 9), (32, 1),
  (33, 15), (42, 2), (43, 15), (482, 64), (484, 1), (487, 1), (488, 96), (493, 2), (494, 32), (12769, 1), (12770, 128), (12780, 9)]

/-- REQUEST_POINTS 5 and 6, STATIONS 0 and 1 and the issue record of `bank`. -/
def deskCells : Memory := [(59962, 1), (59963, 1), (59964, 3), (59966, 8), (59980, 1), (59981, 1), (59982, 4), (59984, 8),
  (59993, 1), (59995, 2), (59996, 1), (59997, 100), (64480, 2), (64485, 1), (64486, 3), (64488, 2), (64493, 2), (64494, 2), (64512, 84),
  (64513, 73), (64514, 1), (64515, 65)]

def memory : Memory := contactCells ++ deskCells

def result : CheckResult := { errorCount := 0, firstError := none, warningCount := 0, firstWarning := none, crc := 0x01020304 }

def counts : CountSet :=
  { classes := [⟨⟨1, 1, 5⟩, ⟨1, 1, 3⟩, ⟨1, 1, 2⟩⟩], points := [(5, ⟨[(0, 4)], none⟩), (6, ⟨[(0, 4)], some 10⟩)], watchdog := 200,
    nominal := 1000 }

def bank : Bank := { memory := memory, state := .checkedGood result counts }

/-- The two stations of `bank`: CONTROL and MAINTAIN. -/
def control : Mac := 0x020000000001
def maintain : Mac := 0x020000000002

/-- Bank A active with bank B EMPTY, the loop RUNNING, the sweep timer running. -/
def state : State :=
  { State.reset with
    tables := { TableStore.reset with bankA := bank, selection := some .a },
    loop := { LoopController.reset with state := .running, sweepTimer := some 8 },
    flasher := { FlasherMonitor.reset with period := some 1000 },
    report := { ReportUnit.reset with timer := some 20 } }

/-- A message of a kind, with tag 7, from a source. -/
def message (source : Mac) (kind : Byte) (content : List Byte) : RxMessage :=
  { source := source, body := kind :: (toBytes 2 7 ++ toBytes 2 content.length ++ content) }

/-- The state with one message in the receive queue. -/
def offering (s : State) (x : RxMessage) : State := { s with desk := { s.desk with receiveQueue := [x] } }

/-- The state with authority, every condition of it good. -/
def authorised : State :=
  { state with
    request := { RequestEngine.reset with
      authority := true, reasons := ⟨false, false, false, false, false, false⟩, lastKeepalive := some 0,
      changeover := some (.up, .good), outen := true } }

/-- A slot of point `q` after `c` sweeps, and the state with authority and that slot alone. -/
def slot (q c : Nat) (step : StepState) : Slot :=
  { tag := 3, point := q, state := .running, accepted := 0, count := c, steps := [step] }
def occupied (sl : Slot) : State :=
  { authorised with request := { authorised.request with slots := some sl :: List.replicate 7 none } }

/-- A sweep in flight, and its frame as the ring returns it with `hops` cards that report nothing. -/
def sweep (kind : SweepKind) : Sweep := { kind := kind, number := 1, phase := 3, mask := 3, time := 0 }
def returned (kind : SweepKind) (hops : Byte) : List Byte := (sweepFrame (sweep kind) [1] []).set 10 hops

/-- The state with its loop in `st`, that sweep in flight and `lost` sweeps lost in a row. -/
def flying (st : LoopState) (kind : SweepKind) (lost : Nat) : State :=
  { state with loop := { state.loop with state := st, inFlight := some (sweep kind), lostCount := lost } }

/-- The state with a report queue of `n` records. -/
def queued (n : Nat) : State := { state with report := { state.report with queue := List.replicate n (.restart 0 false) } }

theorem offers_offering (s : State) (x : RxMessage) (kind : Byte) (h : x.kind = kind) : (offering s x).offers x [] kind := ⟨rfl, h⟩

theorem test_state_active : state.active? = some bank := rfl
theorem test_rights : state.rightsOf control = .control ∧ state.rightsOf maintain = .maintain ∧ state.rightsOf 5 = .none := by
  decide +kernel
theorem test_mapped_roles : (memory.mapEntry 0).role = .front ∧ (memory.mapEntry 1).role = .back ∧ (memory.mapEntry 2).role = .single := by
  decide +kernel
theorem test_memory_wf : memory.wf = true := by decide +kernel

/-! ### A ring of cards

An input card and an output card on the ring of `bank`, as R4 to R6 describe them. -/

def ring : List ScanCard :=
  [{ card := ⟨1, 7⟩, supplyLow := false, otherFlags := 127, inputs := 5, outputs := 0, stuckOpen := 0, stuckClosed := 0, sinceGood := 3 },
    { card := ⟨2, 9⟩, supplyLow := false, otherFlags := 0, inputs := 0, outputs := 8, stuckOpen := 0, stuckClosed := 0, sinceGood := 3 }]

/-- A survey sweep as it comes back from the ring. -/
def surveyed : List Byte := (passRing ring (sweepFrame (sweep .survey) [1] [])).1

/-- It is the sweep's return, clean, with the two cards in loop order (R4, R7, R15). -/
theorem test_ring_answers_a_survey :
    isReturnOf 1 surveyed (sweep .survey) = true ∧ frameHops surveyed = 2 ∧ cleanSurvey 2 (frameReports surveyed) = true
      ∧ cardList (frameReports surveyed) = [⟨1, 7⟩, ⟨2, 9⟩] := by
  refine ⟨?_, ?_, ?_, ?_⟩ <;> decide +kernel

/-- Bit 0 of the status flags is SUPPLY_LOW, and the other seven are not read (R175). -/
theorem test_other_flags_are_not_read : ((frameReports surveyed).map fun r => r.supplyLow) = [false, false] := by decide +kernel

/-- What two survey sweeps bring back from a ring: the output card's readback in each, where both carry the outputs `on` of position 1. -/
def readbacks (cards : List ScanCard) (on : List Nat) : List (List Nat) :=
  let first := passRing cards (sweepFrame (sweep .survey) [1] on)
  let second := passRing first.2 (sweepFrame (sweep .survey) [1] on)
  [first.1, second.1].map fun f => (frameReports f).map fun r => fieldAt r.values 0 2

/-- A readback shows the contacts as the sweeps before left them, and the next one as this sweep commands them (R5). -/
theorem test_readbacks_follow_the_sweep_before : readbacks ring [outputKey 1 0] = [[0, 8], [0, 1]] := by decide +kernel

/-- An output card with output 0 failed open and outputs 0 and 3 set, 98 ms after its last good sweep. -/
def worn : ScanCard :=
  { card := ⟨2, 9⟩, supplyLow := false, otherFlags := 0, inputs := 0, outputs := 9, stuckOpen := 1, stuckClosed := 0, sinceGood := 98 }

/-- A contact that has failed open stays open (R6); and 100 ms without a good sweep, not 99 ms, release every output (R5). -/
theorem test_contacts_fail_and_release : worn.closed = 8 ∧ worn.tick.closed = 8 ∧ worn.tick.tick.closed = 0 := by decide

/-! ### The hypotheses of the statements are met

One theorem for each statement with hypotheses, named after it; where a statement has several clauses, each is met, at a boundary of its
range where it has one. -/

theorem meets_StepRunsFrontCommand : ({ state with pending := [.sweepDue, .frameSend] } : State).pending = .sweepDue :: [.frameSend] := rfl
theorem meets_MillisecondPasses : state.pending = [] := rfl

/-- Bank B in CHECKING under a check of its own. -/
def underCheck (s : State) : State := { s with tables := { s.tables with bankB := { memory := memory, state := .checking } } }

theorem meets_RestartWithoutTables :
    ((offering state (message maintain 0x05 [0])).offers (message maintain 0x05 [0]) [] 0x05
      ∧ (offering state (message maintain 0x05 [0])).rightsOf maintain = .maintain ∧ (message maintain 0x05 [0]).content = [0])
      ∧ (offering (underCheck State.reset) (message maintain 0x05 [1])).offers (message maintain 0x05 [1]) [] 0x05
      ∧ (offering (underCheck State.reset) (message maintain 0x05 [1])).rightsOf maintain = .maintain
      ∧ (message maintain 0x05 [1]).content = [1] ∧ (offering (underCheck State.reset) (message maintain 0x05 [1])).active? = none
      ∧ ((underCheck State.reset).tables.bank .b).state = .checking ∧ ((underCheck State.reset).tables.bank .a).state ≠ .checking :=
  ⟨⟨offers_offering _ _ _ rfl, by decide +kernel, by decide +kernel⟩, offers_offering _ _ _ rfl, by decide +kernel, by decide +kernel, rfl,
    rfl, by decide⟩

theorem meets_RestartWithTables :
    (offering (underCheck state) (message maintain 0x05 [1])).offers (message maintain 0x05 [1]) [] 0x05
      ∧ (offering (underCheck state) (message maintain 0x05 [1])).rightsOf maintain = .maintain
      ∧ (message maintain 0x05 [1]).content = [1] ∧ (offering (underCheck state) (message maintain 0x05 [1])).active? = some bank
      ∧ ((underCheck state).tables.bank .b).state = .checking ∧ ((underCheck state).tables.bank .a).state ≠ .checking
      ∧ bank.memory.defined 6 = true ∧ bank.memory.proofSource? 6 = some ⟨.input, 2⟩ :=
  ⟨offers_offering _ _ _ rfl, by decide +kernel, by decide +kernel, rfl, rfl, by decide, by decide +kernel, by decide +kernel⟩

theorem meets_LinkAndOutenAreFollowed :
    (state.request.authority = false → state.request.occupied = [])
      ∧ (∃ t, exec (.outenChange false) state = .next t ∧ t.request.authority = false)
      ∧ ∃ t, exec (.outenChange true) authorised = .next t ∧ t.request.authority = true :=
  ⟨fun _ => rfl, ⟨_, rfl, by decide +kernel⟩, ⟨_, rfl, by decide +kernel⟩⟩

/-- Point 5's only step is ON, so output 3 of position 1 is carried ON. -/
theorem meets_SweepDueSendsReadSweep (s : State) (h : s = occupied (slot 5 3 .on)) :
    s.active? = some bank ∧ s.loop.sweepTimer = some 8 ∧ s.loop.state = .running ∧ s.loop.inFlight = none
      ∧ s.loop.pendingResurvey = false ∧ s.loop.pendingReadmit = [] ∧ s.tables.switchPending = false
      ∧ bank.memory.outputPositions = [1] ∧ s.commandedOn = [outputKey 1 3] := by
  subst h
  refine ⟨rfl, ?_, ?_, ?_, ?_, ?_, ?_, ?_, ?_⟩ <;> decide +kernel

theorem meets_LostSweepCountsMissedReads (s r : State) (h : s = flying .running .read 1) (hr : r = flying .survey .survey 1) :
    (s.active? = some bank ∧ s.loop.sweepTimer = some 8 ∧ s.loop.state = .running ∧ s.loop.inFlight = some (sweep .read)
        ∧ (sweep .read).kind = .read ∧ s.loop.lostCount < 2 ∧ s.loop.positions.length = 32 ∧ s.loop.pendingResurvey = false
        ∧ s.loop.pendingReadmit = [] ∧ s.tables.switchPending = false)
      ∧ r.active? = some bank ∧ r.loop.sweepTimer = some 8 ∧ r.loop.state = .survey ∧ r.loop.inFlight = some (sweep .survey)
        ∧ (sweep .survey).kind = .survey ∧ r.loop.lostCount < 2 ∧ r.loop.positions.length = 32 ∧ r.loop.pendingResurvey = false
        ∧ r.loop.pendingReadmit = [] ∧ r.tables.switchPending = false := by
  subst h hr
  refine ⟨⟨rfl, ?_⟩, rfl, ?_⟩ <;> decide

theorem meets_ThirdLostSweepEntersDown (s : State) (h : s = flying .survey .survey 2) :
    (.enterDown ∈ [Instr.sweepDue, Instr.enterDown]) ∧ s.active? = some bank ∧ s.loop.sweepTimer = some 8
      ∧ s.loop.inFlight = some (sweep .survey) ∧ s.loop.lostCount = 2 ∧ s.tables.switchPending = false ∧ s.loop.positions.length = 32 := by
  subst h
  refine ⟨by decide, rfl, ?_⟩
  decide

theorem meets_SurveySweepBegins :
    (∃ s : State, s.active? = some bank ∧ s.tables.switchPending = false ∧ s.loop.state = .down ∧ s.loop.retryWait = some 0)
      ∧ (∃ s : State, s.active? = some bank ∧ s.tables.switchPending = false ∧ s.loop.state = .survey ∧ s.loop.restartDelay = some 0)
      ∧ (∃ s : State, s.active? = some bank ∧ s.tables.switchPending = false ∧ s.loop.sweepTimer = some 8 ∧ s.loop.inFlight = none
          ∧ s.loop.state = .running ∧ s.loop.pendingResurvey = true ∧ s.loop.positions.length = 32)
      ∧ (∃ s : State, s.active? = some bank ∧ s.tables.switchPending = false ∧ s.loop.sweepTimer = some 8 ∧ s.loop.inFlight = none
          ∧ s.loop.state = .survey ∧ s.loop.pendingReadmit = [31] ∧ s.loop.positions.length = 32)
      ∧ ∃ s : State, s.active? = some bank ∧ s.tables.switchPending = false ∧ s.loop.sweepTimer = some 8 ∧ s.loop.inFlight = none
          ∧ s.loop.state = .survey ∧ s.loop.pendingResurvey = false ∧ s.loop.pendingReadmit = [] := by
  refine ⟨⟨{ state with loop := { state.loop with state := .down, retryWait := some 0 } }, ?_⟩,
    ⟨{ state with loop := { state.loop with state := .survey, restartDelay := some 0 } }, ?_⟩,
    ⟨{ state with loop := { state.loop with pendingResurvey := true } }, ?_⟩,
    ⟨{ state with loop := { state.loop with state := .survey, pendingReadmit := [31] } }, ?_⟩,
    ⟨{ state with loop := { state.loop with state := .survey } }, ?_⟩⟩ <;> exact ⟨rfl, by decide⟩

/-- A report of `card` at position `p`, and a reading under way in which every position is judged so, with that corrupt score. -/
def report (p : Nat) (card : Card) (good : Bool) : CardReport :=
  { position := p, card := card, supplyLow := true, values := [5, 0, 0, 0, 0, 0, 0, 0], good := good }
def walk (judged : Judged) (score : Nat) : FrameWalk :=
  { st := { flying .running .read 0 with
      loop := { (flying .running .read 0).loop with
        positions := List.replicate 32 { PositionRecord.reset with judged := judged, score := score } } },
    outcomes := [], accepted := [], mismatch := false }

theorem meets_ReadSweepReturns :
    isReturnOf bank.memory.outputPositions.length (returned .survey 0) (sweep .read) = false
      ∧ (flying .running .read 2).active? = some bank ∧ (flying .running .read 2).loop.state = .running
      ∧ (flying .running .read 2).loop.inFlight = some (sweep .read) ∧ (sweep .read).kind = .read
      ∧ isReturnOf bank.memory.outputPositions.length (returned .read 255) (sweep .read) = true ∧ frameReports (returned .read 255) = []
      ∧ (flying .running .read 2).loop.positions.length = 32 :=
  ⟨by decide +kernel, rfl, rfl, rfl, rfl, by decide +kernel, by decide +kernel, by decide⟩

/-- The report clauses of that statement: a report that does nothing more, a corrupt one on both sides of 64, one at a position that is
not ACTIVE, a mismatch, and an accepted report of either card type. -/
theorem meets_ReadSweepReturns_reports :
    (walk .active 55).st.active? = some bank ∧ (walk .active 55).st.loop.positions.length = 32
      ∧ 32 ≤ (report 32 ⟨1, 7⟩ true).position ∧ (sweep .read).mask.getLsbD 2 = false
      ∧ (sweep .read).mask.getLsbD 0 = true ∧ (sweep .read).mask.getLsbD 1 = true ∧ 0 ∉ (walk .active 55).outcomes
      ∧ (report 0 ⟨1, 7⟩ false).good = false
      ∧ ((walk .active 55).st.loop.position 0).score + 8 < 64 ∧ 64 ≤ ((walk .active 56).st.loop.position 0).score + 8
      ∧ ((walk .missing 0).st.loop.position 0).judged ≠ .active ∧ ((walk .active 0).st.loop.position 1).judged = .active
      ∧ bank.memory.expectedType 0 = 1 ∧ bank.memory.expectedType 1 = 2
      ∧ (report 0 ⟨2, 7⟩ true).card.cardType.toNat ≠ bank.memory.expectedType 0
      ∧ (report 0 ⟨1, 7⟩ true).card.cardType.toNat = bank.memory.expectedType 0
      ∧ (report 0 ⟨1, 7⟩ true).card.identity &&& bank.memory.identityMask 0 = bank.memory.identityValue 0
      ∧ (report 1 ⟨2, 9⟩ true).card.cardType.toNat = bank.memory.expectedType 1
      ∧ (report 1 ⟨2, 9⟩ true).card.identity &&& bank.memory.identityMask 1 = bank.memory.identityValue 1
      ∧ (walk .active 0).mismatch = false ∧ ({ walk .active 0 with mismatch := true } : FrameWalk).mismatch = true := by
  refine ⟨rfl, ?_⟩
  decide +kernel

theorem meets_SurveySweepReturns :
    (flying .survey .survey 0).active? = some bank ∧ (flying .survey .survey 0).loop.state = .survey
      ∧ (flying .survey .survey 0).loop.inFlight = some (sweep .survey) ∧ (sweep .survey).kind = .survey
      ∧ isReturnOf bank.memory.outputPositions.length (returned .survey 0) (sweep .survey) = true
      ∧ isReturnOf bank.memory.outputPositions.length (returned .survey 1) (sweep .survey) = true
      ∧ (flying .survey .survey 0).loop.positions.length = 32
      ∧ cleanSurvey (frameHops (returned .survey 1)) (frameReports (returned .survey 1)) = false
      ∧ cleanSurvey (frameHops (returned .survey 0)) (frameReports (returned .survey 0)) = true
      ∧ (flying .survey .survey 0).loop.heldList ≠ some (cardList (frameReports (returned .survey 0)))
      ∧ ({ (flying .survey .survey 0).loop with heldList := some [] } : LoopController).heldList
          = some (cardList (frameReports (returned .survey 0))) :=
  ⟨rfl, rfl, rfl, rfl, by decide +kernel, by decide +kernel, by decide, by decide +kernel, by decide +kernel, by decide +kernel,
    by decide +kernel⟩

theorem meets_SurveyRequestsWait :
    state.rightsOf maintain = .maintain ∧ state.checking = false
      ∧ (offering state (message maintain 0x24 [])).offers (message maintain 0x24 []) [] 0x24 ∧ (message maintain 0x24 []).content = []
      ∧ (offering state (message maintain 0x23 [31])).offers (message maintain 0x23 [31]) [] 0x23
      ∧ (message maintain 0x23 [31]).content = [31] :=
  ⟨by decide +kernel, rfl, offers_offering _ _ _ rfl, by decide +kernel, offers_offering _ _ _ rfl, by decide +kernel⟩

theorem meets_OutageTurnsInputsUnknown : state.active? = some bank ∧ state.outage 31 = true := ⟨rfl, by decide⟩

/-- Input 2 with a candidate CLOSED that has been counted once. -/
def candidate : InputState := { InputState.start with candidate := some .closed, count := 1 }

/-- `bank` with the debounce counts 3 to CLOSED and 2 to OPEN, and with the flash flag on its class. -/
def slow : Bank := { bank with state := .checkedGood result { counts with classes := [⟨⟨3, 2, 5⟩, ⟨3, 2, 5⟩, ⟨3, 2, 5⟩⟩] } }
def flashing : Bank := { slow with memory := memory.write 355 1 }
/-- An input that stands OPEN with nothing counted. -/
def open_ : InputState := { InputState.start with debounced := some .opened, settled := some .opened }

theorem meets_SettlingTakesTheFirstSeenTime :
    ({ state with filter := { inputs := [(2, candidate)], forced := [] } } : State).active? = some bank
      ∧ keyedGet 2 [(2, candidate)] = some candidate ∧ candidate.candidate = some .closed
      ∧ bank.debounceCount (bank.memory.mapEntry 2) .closed ≤ candidate.count ∧ bank.memory.flashClassified 2 = false
      ∧ slow.memory.flashClassified 2 = false ∧ InputState.start.debounced = none ∧ open_.debounced = some .opened
      ∧ open_.candidate = none ∧ 1 < slow.debounceCount (slow.memory.mapEntry 2) .closed
      ∧ bank.debounceCount (bank.memory.mapEntry 2) .closed ≤ 1
      ∧ ({ open_ with candidate := some .closed, count := 2 } : InputState).candidate = some .closed
      ∧ 1 + 1 < slow.debounceCount (slow.memory.mapEntry 2) .closed ∧ slow.debounceCount (slow.memory.mapEntry 2) .closed ≤ 2 + 1 := by
  refine ⟨rfl, ?_⟩
  decide +kernel

/-- A run of `n` reads of an input that stands OPEN, with qualifying count `h`. -/
def run (n h : Nat) : RunData := { start := 0, length := n, outlasted := false, openStart := false, qualifying := h, flashStart := 0 }
def steady (n h : Nat) : InputState := { open_ with run := some (run n h) }

/-- With P = 1,000 ms, T_r = 8 ms and debounce count 3: certain lengths of 47 and 78 reads lie inside 375 ms to 625 ms, and 46 and 79
outside. -/
theorem meets_SettlingTakesTheFirstSeenTime_runs :
    flashing.memory.flashClassified 2 = true ∧ 3 = flashing.debounceCount (flashing.memory.mapEntry 2) .closed
      ∧ 8 = flashing.memory.readPeriod (flashing.memory.mapEntry 2).position ∧ InputState.start.debounced = none
      ∧ (steady 5 0).debounced = some .opened
      ∧ ((steady 5 0).debounce 3 .closed 9).2 = false
      ∧ (({ steady 5 0 with candidate := some .closed, count := 2 } : InputState).debounce 3 .closed 9).2 = true
      ∧ (steady 5 0).run = some (run 5 0) ∧ (steady 5 0).settled = some .opened
      ∧ ({ steady 5 2 with settled := some .flashing } : InputState).settled = some .flashing
      ∧ (3 * 1000 ≤ 8 * ((50 - 3) * 8) ∧ 8 * ((50 - 3) * 8) ≤ 5 * 1000 ∧ (run 50 0).qualifying + 1 < 2 ∧ 2 ≤ (run 50 1).qualifying + 1)
      ∧ (3 * 1000 ≤ 8 * ((81 - 3) * 8) ∧ 8 * ((81 - 3) * 8) ≤ 5 * 1000)
      ∧ (8 * ((49 - 3) * 8) < 3 * 1000 ∧ 5 * 1000 < 8 * ((82 - 3) * 8))
      ∧ ({ run 50 0 with openStart := true } : RunData).openStart = true ∧ ({ run 50 0 with outlasted := true } : RunData).outlasted = true
      ∧ 5 * 1000 < 8 * (((run 79 1).length - (steady 79 1).count) * 8) ∧ 8 * (((run 78 1).length - (steady 78 1).count) * 8) ≤ 5 * 1000
      ∧ keyedGet 2 [(2, steady 5 0)] = some (steady 5 0) := by
  decide +kernel

/-- The flasher monitor after eight cycles that held `n` reads. -/
def measured (n : Nat) : FlasherMonitor := { state.flasher with cycles := 8, readSum := n, measuring := true }

theorem meets_MeasurementJudgesThePeriod :
    bank.memory.referenceEntry? = some (2, bank.memory.mapEntry 2) ∧ 8 ≤ (measured 1250).cycles
      ∧ (3 * bank.counts.nominal ≤ 4 * 1250 ∧ 4 * 1250 ≤ 5 * bank.counts.nominal
          ∧ 1250 = ((measured 1250).readSum * bank.memory.readPeriod (bank.memory.mapEntry 2).position + 4) / 8)
      ∧ (¬(3 * bank.counts.nominal ≤ 4 * 1251 ∧ 4 * 1251 ≤ 5 * bank.counts.nominal)
          ∧ 1251 = ((measured 1251).readSum * bank.memory.readPeriod (bank.memory.mapEntry 2).position + 4) / 8)
      ∧ bank.memory.flasherMode = .oneShot := by
  refine ⟨?_, ?_, ?_, ?_, ?_⟩ <;> decide +kernel

/-- The clauses on a read: the reference UNKNOWN before, after, or held on both sides; and the cycle step below and at eight cycles. -/
theorem meets_MeasurementJudgesThePeriod_reads (f : FlasherMonitor) (h : f = { state.flasher with sinceRise := some 9, anchored := true }) :
    InputState.start.debounced = none ∧ open_.debounced ≠ none ∧ open_.debounced = some .opened
      ∧ ({ open_ with debounced := some .closed } : InputState).debounced = some .closed ∧ f.sinceRise = some 9 ∧ f.anchored = true
      ∧ state.flasher.anchored = false ∧ f.measuring = false ∧ (measured 9).measuring = true
      ∧ ({ f with cycles := 6 }.countCycle .auto 2).cycles < 8 ∧ 8 ≤ ({ f with cycles := 7 }.countCycle .auto 2).cycles := by
  subst h
  decide +kernel

/-- The flasher monitor 251 reads after the last rise, at 8 ms a read: 2,008 ms, just past twice the period of 1,000 ms. -/
def late (measuring : Bool) : FlasherMonitor := { state.flasher with sinceRise := some 251, measuring := measuring }
/-- The memory with the flasher mode of a code. -/
def memoryIn (mode : Byte) : Memory := memory.write 8 mode

theorem meets_StoppedFlasherAbandonsMeasurement :
    (late true).sinceRise = some 251 ∧ (late true).period = some 1000 ∧ (late true).stopped = false
      ∧ 2 * 1000 < 251 * bank.memory.readPeriod (bank.memory.mapEntry 2).position ∧ ¬2 * 1000 < 250 * bank.memory.readPeriod 0
      ∧ bank.memory.flasherMode = .oneShot ∧ (late true).measuring = true
      ∧ (memoryIn 1).flasherMode = .auto ∧ (memoryIn 1).referenceEntry?.isSome = true
      ∧ (memoryIn 0).flasherMode = .manual ∧ (memoryIn 0).referenceEntry?.isSome = true := by
  refine ⟨rfl, rfl, rfl, ?_, ?_, ?_, rfl, ?_, ?_, ?_, ?_⟩ <;> decide +kernel

/-- The changeover pair in TRANSIT, five reads counted. -/
def moving : PairRecord := { state := .transit, transit := 5, stamp := 0, quality := .good }

theorem meets_TransitCountOutIsOpenFault :
    keyedGet 0 [(0, moving)] = some moving ∧ moving.state = .transit ∧ bank.transitCount (bank.memory.mapEntry 0) ≤ moving.transit
      ∧ 0 = bank.memory.changeover := by
  refine ⟨by decide, rfl, ?_, ?_⟩ <;> decide +kernel

/-- A notice of input 0. -/
def notice : InputNotice := { input := 0, value := some .opened, quality := .good, stamp := 0, cause := .input 0 }

/-- The clauses on a batch: a notice, each state that both contacts open can find, and the count below and at N_t. -/
theorem meets_TransitCountOutIsOpenFault_batch :
    [notice] ≠ [] ∧ (Quality.unknown ≠ .good ∧ Quality.forced ≠ .unknown) ∧ (bank.memory.mapEntry 0).position = 0
      ∧ ({ moving with state := .up } : PairRecord).state = .up ∧ ({ moving with state := .closedFault } : PairRecord).state = .closedFault
      ∧ bank.transitCount (bank.memory.mapEntry 0) ≤ ({ moving with transit := 4 } : PairRecord).transit + 1
      ∧ ({ moving with transit := 3 } : PairRecord).transit + 1 < bank.transitCount (bank.memory.mapEntry 0) := by
  decide +kernel

/-- A forced list of `n` inputs from 100 on. -/
def forced (n : Nat) : List (Nat × ContactValue) := (List.range n).map fun k => (100 + k, .closed)

theorem meets_ForcePresentsItsValue :
    (offering state (message maintain 0x21 [0, 2, 1])).offers (message maintain 0x21 [0, 2, 1]) [] 0x21
      ∧ (offering state (message maintain 0x21 [0, 2, 1])).rightsOf maintain = .maintain ∧ state.checking = false
      ∧ (message maintain 0x21 [0, 2, 1]).content = [0, 2, 1] ∧ (1 : Byte).toNat < 2
      ∧ 2 = 256 * (0 : Byte).toNat + (2 : Byte).toNat ∧ 2 < 2048 ∧ (bank.memory.mapEntry 2).role ≠ .unused
      ∧ keyedGet 2 [(2, candidate)] = some candidate ∧ (forced 31).length < 32 ∧ 2 ∈ (forced 31 ++ [(2, ContactValue.closed)]).map Prod.fst
      ∧ State.reset.active? = none ∧ (bank.memory.mapEntry 2047).role = .unused
      ∧ 2048 ≤ 256 * (8 : Byte).toNat + (0 : Byte).toNat ∧ 2 ∉ (forced 32).map Prod.fst ∧ 32 ≤ (forced 32).length := by
  refine ⟨offers_offering _ _ _ rfl, ?_, rfl, ?_, ?_, ?_, ?_, ?_, ?_, ?_, ?_, rfl, ?_, ?_, ?_, ?_⟩ <;> decide +kernel

theorem meets_ReleasePresentsUnderlyingState :
    (offering state (message maintain 0x22 [7, 255])).offers (message maintain 0x22 [7, 255]) [] 0x22
      ∧ (offering state (message maintain 0x22 [7, 255])).rightsOf maintain = .maintain ∧ state.checking = false
      ∧ (message maintain 0x22 [7, 255]).content = [7, 255] ∧ 2047 = 256 * (7 : Byte).toNat + (255 : Byte).toNat ∧ 2047 < 2048
      ∧ keyedGet 2047 [(2047, candidate)] = some candidate ∧ 2047 ∉ (forced 3).map Prod.fst
      ∧ 2047 ∈ (forced 3 ++ [(2047, ContactValue.opened)]).map Prod.fst
      ∧ State.reset.active? = none ∧ state.active? = some bank ∧ 2048 ≤ 256 * (8 : Byte).toNat + (0 : Byte).toNat := by
  refine ⟨offers_offering _ _ _ rfl, ?_, rfl, ?_, ?_, ?_, ?_, ?_, ?_, rfl, rfl, ?_⟩ <;> decide +kernel

theorem meets_MeasureFlasherBegins :
    (offering state (message maintain 0x25 [])).offers (message maintain 0x25 []) [] 0x25
      ∧ (offering state (message maintain 0x25 [])).rightsOf maintain = .maintain ∧ state.checking = false
      ∧ state.active? = some bank ∧ (message maintain 0x25 []).content = []
      ∧ (memoryIn 1).flasherMode ≠ .oneShot ∧ bank.memory.flasherMode = .oneShot ∧ (late true).measuring = true
      ∧ (late false).measuring = false ∧ (offering State.reset (message maintain 0x25 [])).active? = none
      ∧ (offering State.reset (message maintain 0x25 [])).rightsOf maintain = .maintain := by
  refine ⟨offers_offering _ _ _ rfl, ?_, rfl, rfl, ?_, ?_, ?_, ?_, ?_, rfl, rfl⟩ <;> decide +kernel

/-- A step that ends, one that goes on, a proof time that still runs and one that has passed. -/
theorem meets_StepTimingUpdatesSlots (brought : Slot → Slot)
    (h : brought = fun sl => { sl with steps := List.zipWith (stepAfter sl.count) (bank.pointCounts sl.point).steps sl.steps }) :
    (occupied (slot 5 3 .on)).active? = some bank ∧ (occupied (slot 5 3 .on)).request.slots[1]? = some none
      ∧ (occupied (slot 5 3 .on)).request.slots[0]? = some (some (slot 5 3 .on)) ∧ (brought (slot 5 3 .on)).allDone = false
      ∧ (brought (slot 5 4 .on)).allDone = true ∧ (bank.pointCounts 5).proof = none ∧ (brought (slot 6 9 .done)).allDone = true
      ∧ (bank.pointCounts 6).proof = some 10 ∧ (brought (slot 6 9 .done)).count < 10 ∧ ¬(brought (slot 6 10 .done)).count < 10 := by
  subst h
  refine ⟨rfl, ?_, ?_, ?_, ?_, ?_, ?_, ?_, ?_, ?_⟩ <;> decide +kernel

theorem meets_ProofTimeEndsNotProved :
    (occupied (slot 6 10 .done)).active? = some bank
      ∧ (occupied (slot 6 10 .done)).request.slots[0]? = some (some (slot 6 10 .done))
      ∧ (occupied (slot 6 10 .done)).request.slots[7]? = some none ∧ (bank.pointCounts 6).proof = some 10
      ∧ (slot 6 10 .done).allDone = true ∧ 10 ≤ (slot 6 10 .done).count ∧ (slot 6 9 .done).count < 10
      ∧ (slot 6 10 .on).allDone = false ∧ (bank.pointCounts (slot 5 10 .done).point).proof = none := by
  refine ⟨rfl, ?_, ?_, ?_, ?_, ?_, ?_, ?_, ?_⟩ <;> decide +kernel

/-- A notice of input 2 CLOSED and GOOD meets the proof of point 6, one of another quality does not, and point 5 has no proof. -/
theorem meets_ProofTimeEndsNotProved_notice :
    (occupied (slot 6 2 .on)).active? = some bank ∧ (occupied (slot 6 2 .on)).request.slots[0]? = some (some (slot 6 2 .on))
      ∧ (occupied (slot 6 2 .on)).request.slots[7]? = some none ∧ bank.memory.proofSource? (slot 6 2 .on).point = some ⟨.input, 2⟩
      ∧ some 1 = some (bank.memory.proofValue (slot 6 2 .on).point) ∧ Quality.forced ≠ .good
      ∧ bank.memory.proofSource? (slot 5 2 .on).point = none := by
  refine ⟨rfl, ?_, ?_, ?_, ?_, ?_, ?_⟩ <;> decide +kernel

/-- The part's own count 200 ms and 199 ms after the last matching keepalive, with W = 200 ms. -/
def elapsed (n : Nat) : State := { occupied (slot 5 0 .on) with clock := { state.clock with own := n } }

theorem meets_WatchdogEndsAuthority :
    (elapsed 200).active? = some bank ∧ (elapsed 200).request.lastKeepalive = some 0 ∧ (elapsed 200).request.authority = true
      ∧ bank.counts.watchdog ≤ (elapsed 200).clock.own - 0 ∧ (elapsed 199).clock.own - 0 < bank.counts.watchdog :=
  ⟨rfl, rfl, rfl, by decide +kernel, by decide +kernel⟩

theorem meets_KeepaliveMatchesTheIssue (other : List Byte) (h : other = List.replicate 60 0x42) :
    (offering authorised (message control 0x40 [1, 0x41])).offers (message control 0x40 [1, 0x41]) [] 0x40
      ∧ authorised.active? = some bank ∧ authorised.rightsOf control = .control
      ∧ (message control 0x40 [1, 0x41]).content = BitVec.ofNat 8 [(0x41 : Byte)].length :: [0x41]
      ∧ bank.memory.issueValue? keywordTI = some [0x41] ∧ other.length ≤ 60
      ∧ (message control 0x40 (60 :: other)).content = BitVec.ofNat 8 other.length :: other
      ∧ bank.memory.issueValue? keywordTI ≠ some other := by
  subst h
  refine ⟨offers_offering _ _ _ rfl, rfl, ?_, ?_, ?_, ?_, ?_, ?_⟩ <;> decide +kernel

/-- The request engine with authority and `n` outcome records. -/
def crowded (n : Nat) : RequestEngine :=
  { authorised.request with outcomes := List.replicate n { tag := 0, point := none, result := .done, stamp := 0, reasons := none } }
/-- Input 2 CLOSED and GOOD as a proof source. -/
def shown : List ProofSource := [{ source := ⟨.input, 2⟩, value := some 1, quality := .good }]

theorem meets_OperateAccepted (s : State) (h : s = offering { authorised with request := crowded 15 } (message control 0x41 [6])) :
    s.offers (message control 0x41 [6]) [] 0x41 ∧ s.active? = some bank ∧ s.rightsOf control = .control
      ∧ (message control 0x41 [6]).content = [6] ∧ s.request.outcomes.length + s.request.occupied.length < 16
      ∧ s.request.authority = true ∧ 1 ≤ bank.memory.stepCount 6 ∧ bank.memory.stepCount 6 ≤ 3
      ∧ (∀ sl ∈ s.request.occupied, sl.tag ≠ (message control 0x41 [6]).taken.tag)
      ∧ (∀ o ∈ bank.memory.pointOutputs 6, o ∉ s.request.blocked)
      ∧ (∀ sl ∈ s.request.occupied, ∀ o ∈ bank.memory.pointOutputs sl.point, o ∉ bank.memory.pointOutputs 6)
      ∧ (∃ k : Nat, s.request.slots[k]? = some none) ∧ s.proofStands bank.memory 6 = false
      ∧ ({ s with request := { s.request with proofs := shown } } : State).proofStands bank.memory 6 = true := by
  subst h
  refine ⟨offers_offering _ _ _ rfl, rfl, ?_, ?_, ?_, rfl, ?_, ?_, ?_, ?_, ?_, ⟨7, ?_⟩, ?_, ?_⟩ <;> decide +kernel

/-- Every check of R126 fails somewhere, the checks before it passed. -/
theorem meets_OperateRefused (tag : Word16) (h : tag = (message control 0x41 [5]).taken.tag) :
    16 ≤ (crowded 16).outcomes.length + (crowded 16).occupied.length
      ∧ state.request.authority = false
      ∧ ¬(1 ≤ bank.memory.stepCount 7 ∧ bank.memory.stepCount 7 ≤ 3)
      ∧ (1 ≤ bank.memory.stepCount 5 ∧ bank.memory.stepCount 5 ≤ 3)
      ∧ (∃ sl ∈ ({ crowded 14 with slots := [some { slot 5 0 .on with tag := 7 }] } : RequestEngine).occupied, sl.tag = tag)
      ∧ (∃ o ∈ bank.memory.pointOutputs 5, o ∈ [19])
      ∧ (∃ sl ∈ (occupied (slot 5 0 .on)).request.occupied, ∃ o ∈ bank.memory.pointOutputs sl.point, o ∈ bank.memory.pointOutputs 5)
      ∧ (∀ sl ∈ (List.replicate 8 (some (slot 6 0 .on))).filterMap id, sl.tag ≠ tag
          ∧ ∀ o ∈ bank.memory.pointOutputs sl.point, o ∉ bank.memory.pointOutputs 5)
      ∧ ∀ k : Nat, (List.replicate 8 (some (slot 6 0 .on)))[k]? ≠ some none := by
  subst h
  refine ⟨?_, ?_, ?_, ?_, ?_, ?_, ?_, ?_, ?_⟩
  on_goal 9 => intro k hk; have := List.mem_of_getElem? hk; simp at this
  all_goals decide +kernel

theorem meets_CancelEndsTheRequest :
    (offering authorised (message control 0x42 [0, 3])).offers (message control 0x42 [0, 3]) [] 0x42
      ∧ (offering authorised (message control 0x42 [0, 3])).rightsOf control = .control
      ∧ (message control 0x42 [0, 3]).content = [0, 3] ∧ (3 : Word16) = BitVec.ofNat 16 (256 * (0 : Byte).toNat + (3 : Byte).toNat)
      ∧ (∃ sl ∈ (occupied (slot 5 0 .on)).request.occupied, sl.tag = 3) ∧ ∀ sl ∈ authorised.request.occupied, sl.tag ≠ 3 := by
  refine ⟨offers_offering _ _ _ rfl, ?_, ?_, ?_, ?_, ?_⟩ <;> decide +kernel

theorem meets_ClearOutputBlockUnblocks :
    (offering state (message maintain 0x26 [31, 15])).offers (message maintain 0x26 [31, 15]) [] 0x26
      ∧ (offering state (message maintain 0x26 [31, 15])).rightsOf maintain = .maintain ∧ state.checking = false
      ∧ (message maintain 0x26 [31, 15]).content = [31, 15] ∧ State.reset.active? = none ∧ State.reset.rightsOf maintain = .maintain
      ∧ state.active? ≠ none ∧ (32 ≤ (32 : Byte).toNat ∧ 16 ≤ (16 : Byte).toNat) ∧ (31 : Byte).toNat < 32 ∧ (15 : Byte).toNat < 16
      ∧ 16 * (31 : Byte).toNat + (15 : Byte).toNat ∉ state.request.blocked ∧ 16 * (31 : Byte).toNat + (15 : Byte).toNat ∈ [511] := by
  refine ⟨offers_offering _ _ _ rfl, ?_, rfl, ?_, rfl, rfl, by simp [state, State.active?], ?_, ?_, ?_, ?_, ?_⟩ <;> decide +kernel

/-- The request engine with output 3 of position 1 last carried ON, at grace `g`. -/
def carrying (g : Nat) : RequestEngine := { (occupied (slot 5 0 .on)).request with carried := [(19, { state := some true, grace := g })] }

/-- The readback clauses of that statement: grace that stands and grace 0; and a readback OFF at grace 0 blocks an output of the slot's
point. -/
theorem meets_ClearOutputBlockUnblocks_readback :
    0 < ((carrying 1).carriedOf 19).grace ∧ ((carrying 0).carriedOf 19).grace = 0 ∧ ((carrying 0).carriedOf 20).state = none
      ∧ ((carrying 0).carriedOf 19).state = some (!false) ∧ 19 ∈ ((carrying 0).checkCard 1 0).blocked
      ∧ (bank.memory.pointOutputs 5).any (fun o => decide (o ∈ ((carrying 0).checkCard 1 0).blocked ∧ o ∉ (carrying 0).blocked)) = true := by
  decide +kernel

/-- The report timer run out, with the queue NORMAL, and in OVERRUN with more than a quarter of L_q = 64 left. -/
theorem meets_ReportPeriodEmitsOneFrame (r : ReportUnit) (h : r = { (queued 49).report with timer := some 0, queueState := .overrun }) :
    ({ state with report := r } : State).active? = some bank ∧ r.timer = some 0 ∧ r.queueState = .overrun
      ∧ bank.memory.queueLimit / 4 < (r.queue.drop 32).length ∧ (queued 0).report.queueState = .normal := by
  subst h
  refine ⟨rfl, rfl, rfl, ?_, rfl⟩
  decide +kernel

/-- 48 records leave 16 in the queue, a quarter of L_q = 64; 49 leave one more. -/
theorem meets_OverrunEndsAtAQuarter (r : Nat → ReportUnit)
    (h : r = fun n => { (queued n).report with timer := some 0, queueState := .overrun }) :
    ({ state with report := r 48 } : State).active? = some bank ∧ (r 48).timer = some 0 ∧ (r 48).queueState = .overrun
      ∧ bank.memory.queueLimit ≤ 512 ∧ ((r 48).queue.drop 32).length ≤ bank.memory.queueLimit / 4
      ∧ bank.memory.queueLimit / 4 < ((r 49).queue.drop 32).length
      ∧ ∀ o ∈ ({ state with report := r 48 } : State).evaluator.objects, ∀ tm ∈ o.terms, tm.source ≠ ⟨.condition, 3⟩ := by
  subst h
  refine ⟨rfl, rfl, rfl, ?_, ?_, ?_, ?_⟩ <;> decide +kernel

theorem meets_MarkersUseTheRoomAboveTheLimit :
    (queued 511).report.queue.length < 512 ∧ (queued 512).report.queue.length = 512
      ∧ ({ (queued 128).report with queueState := .overrun } : ReportUnit).queueState = .overrun
      ∧ (queued 128).report.queue.length ≤ 512 / 4 := by decide +kernel

theorem meets_ChangeRecordMeetsTheQueue :
    (queued 511).report.queueState = .normal ∧ (queued 511).report.queue.length < 512 ∧ 512 ≤ (queued 512).report.queue.length := by
  decide +kernel

theorem meets_SetTimeLoadsTheTimeBase (content : List Byte) (h : content = toBytes 6 (0xFFFFFFFFFFFF : Stamp).toNat) :
    (offering state (message control 0x20 content)).offers (message control 0x20 content) [] 0x20
      ∧ state.rightsOf control = .control ∧ state.rightsOf maintain = .maintain ∧ state.checking = false
      ∧ (message control 0x20 content).content = toBytes 6 (0xFFFFFFFFFFFF : Stamp).toNat
      ∧ (queued 511).report.queue.length < 512 ∧ (queued 512).report.queue.length = 512 ∧ state.report.timeValid = false := by
  subst h
  refine ⟨offers_offering _ _ _ rfl, ?_, ?_, rfl, ?_, ?_, ?_, rfl⟩ <;> decide +kernel

/-- The image of `bank` with LOOP_RUNNING at 0: the entry is that of the table, not the fallback. -/
def image : List ObjectState :=
  [{ terms := [{ source := ⟨.condition, 0⟩, value := some 0, quality := .good, stamp := 0, cause := .condition 0 }],
     entry := { indication := 0, quality := .good } }]

/-- LOOP_RUNNING handed on at `v`, as the one change of a round. -/
def loopRound (v : Nat) : List TermChange := [⟨⟨.condition, 0⟩, some v, .good, 5, .condition 0⟩]

/-- A round that changes no term of object 0, one that changes its term and not its entry, and one that changes its entry too. -/
theorem meets_ChangeRecordMeetsTheQueue_evaluation :
    (∀ o ∈ image, ∀ tm ∈ o.terms, tm.source ≠ ⟨.condition, 1⟩) ∧ (∀ o ∈ image, ∃ tm ∈ o.terms, tm.source = ⟨.condition, 0⟩)
      ∧ image.map (fun o => decide ((evaluateObject memory (loopRound 0) 0 o).1.entry = o.entry)) = [true]
      ∧ image.map (fun o => decide ((evaluateObject (memory.write (TableKind.indications.entryAt 1) 3) (loopRound 1) 0 o).1.entry = o.entry)) = [false]
      ∧ state.active? = some bank := by
  refine ⟨?_, ?_, ?_, ?_, rfl⟩ <;> decide +kernel

/-- A check context on the standby of the state. -/
def context : CheckContext :=
  { bank := .b, sender := maintain, tag := 7, errors := 0, warnings := 0, firstError := none, firstWarning := none, remaining := 0 }

theorem meets_CheckCompletionDecidesTheBank :
    ({ state.tables with check := some context } : TableStore).check = some context ∧ (state.tables.bank context.bank).memory.findings ≠ [] := by
  refine ⟨rfl, ?_⟩
  have h : (state.tables.bank context.bank).memory.globalsFindings ≠ [] := by decide +kernel
  intro e
  apply h
  simp only [Memory.findings, List.append_assoc, List.append_eq_nil_iff] at e
  exact e.1

/-- A bank without findings: `bank` with input 2 flash-classified by class 1, and an SI item. -/
def sound : Memory :=
  [(0, 8), (2, 20), (4, 64), (6, 1), (7, 100), (8, 2), (9, 140), (11, 2), (14, 2), (19, 9), (32, 1), (33, 15), (42, 2), (43, 15), (359, 1),
    (482, 64), (484, 1), (487, 1), (488, 96), (493, 2), (494, 33), (12769, 1), (12770, 128), (12780, 9)]
    ++ deskCells ++ [(64516, 83), (64517, 73), (64518, 1), (64519, 66)]

/-- No input of `sound` from 3 on is mapped. -/
theorem sound_unused (i : Nat) (h : 3 ≤ i) (h2 : i < 2048) : (sound.mapEntry i).role = .unused := by
  have hr : sound.read (TableKind.contactMap.entryAt i + 2 + 0) = 0 := by
    refine Memory.read_unlisted _ _ fun c hc => ?_
    have hc : c.1 < 500 ∨ 12768 ≤ c.1 := (by decide : ∀ c ∈ sound, c.1 < 500 ∨ 12768 ≤ c.1) c hc
    simp only [TableKind.entryAt, TableKind.base, TableKind.entrySize]
    omega
  have hk : sound.entryField .contactMap i 2 1 = 0 := by
    simp only [Memory.entryField, Memory.slice, List.range_one, List.map_cons, List.map_nil, hr]
    rfl
  simp only [Memory.mapEntry, hk]
  rfl

/-- Which of `sound`'s inputs have a role other than UNUSED is seen in its first three. -/
theorem sound_filter (f : Role → Bool) (h : f .unused = false) :
    ((List.range 2048).filter fun i => f (sound.mapEntry i).role) = (List.range 3).filter fun i => f (sound.mapEntry i).role := by
  rw [show 2048 = 3 + 2045 from rfl, List.range_add, List.filter_append, List.append_right_eq_self, List.filter_eq_nil_iff]
  intro i hi
  obtain ⟨k, hk, rfl⟩ := List.mem_map.1 hi
  rw [List.mem_range] at hk
  rw [sound_unused _ (by omega) (by omega), h]
  decide

theorem sound_mapped : sound.mappedInputs = [0, 1, 2] :=
  (sound_filter (fun r => decide (r ≠ .unused)) rfl).trans (by decide +kernel)
theorem sound_pairs : sound.pairNumbers = [0] :=
  (sound_filter (fun r => decide (r = .front)) rfl).trans (by decide +kernel)

theorem sound_speed (p : Nat) (hp : p ∈ List.range 32) : sound.flashSpeedFindings p = [] := by
  unfold Memory.flashSpeedFindings
  unfold Memory.inputsWith
  rw [sound_mapped]
  revert p
  decide +kernel

theorem sound_findings : sound.findings = [] := by
  simp only [Memory.findings, List.append_eq_nil_iff, sound_mapped]
  have h : sound.sweepPeriodGood = true ∧ sound.flasherPeriodGood = true ∧ sound.objectCountGood = true ∧ sound.objectCount = 1 := by decide +kernel
  refine ⟨⟨⟨⟨⟨⟨⟨⟨⟨?_, ?_⟩, ?_⟩, ?_⟩, ?_⟩, ?_⟩, ?_⟩, ?_⟩, ?_⟩, ?_⟩
  · decide +kernel
  · decide +kernel
  · rw [List.flatMap_eq_nil_iff]
    simp only [Memory.classFindings, Memory.classIntervals, Memory.inputsWith, sound_mapped]
    decide +kernel
  · rw [List.flatMap_eq_nil_iff]
    simp only [Memory.mapFindings, Memory.inputsWith, Memory.partnerFails, Memory.namedByFront, sound_mapped, sound_pairs]
    decide +kernel
  · simp only [h.1, h.2.1, Bool.and_self, if_true]
    exact List.flatMap_eq_nil_iff.2 sound_speed
  · simp only [h.2.2.1, h.2.2.2, if_true]
    decide +kernel
  · decide +kernel
  · decide +kernel
  · decide +kernel
  · decide +kernel

theorem meets_CheckCompletionDecidesTheBank_clean (s : State)
    (h : s = { state with tables := { state.tables with bankB := { memory := sound, state := .checking }, check := some context } }) :
    s.tables.check = some context ∧ (s.tables.bank context.bank).memory.findings = [] := by
  subst h
  exact ⟨rfl, sound_findings⟩

theorem meets_WriteTableReplacesEntries (payload : List Byte) (h : payload = List.replicate 1024 1) (x : RxMessage)
    (hx : x = message maintain 0x10 (BitVec.ofNat 8 TableKind.indications.code :: (toBytes 2 31744 ++ toBytes 2 1024 ++ payload))) :
    (offering state x).offers x [] 0x10 ∧ (offering state x).rightsOf maintain = .maintain ∧ state.checking = false
      ∧ state.tables.switchPending = false ∧ state.tables.standby.memory.wf = true
      ∧ x.content = BitVec.ofNat 8 TableKind.indications.code :: (toBytes 2 31744 ++ toBytes 2 1024 ++ payload)
      ∧ 31744 + 1024 ≤ TableKind.indications.entries ∧ payload.length = 1024 * TableKind.indications.entrySize
      ∧ payload.length ≤ 1024 := by
  subst h hx
  refine ⟨offers_offering _ _ _ rfl, ?_, rfl, rfl, rfl, ?_, ?_, ?_, ?_⟩ <;> decide +kernel

theorem meets_WriteTableRefusedInOrder :
    tableKindOf (10 : Byte).toNat = none ∧ tableKindOf (8 : Byte).toNat = some .stations
      ∧ ({ state.tables with switchPending := true } : TableStore).switchPending = true ∧ TableKind.stations.entries < 4 + 1
      ∧ 3 + 1 ≤ TableKind.stations.entries ∧ (List.replicate 9 (0 : Byte)).length ≠ 1 * TableKind.stations.entrySize
      ∧ (message maintain 0x10 [8, 0, 3, 0, 1]).content = 8 :: (toBytes 2 3 ++ toBytes 2 1 ++ []) := by decide +kernel

theorem meets_ReadTableReturnsEntries (x : RxMessage)
    (h : x = message maintain 0x11 (BankName.a.code :: BitVec.ofNat 8 TableKind.indications.code :: (toBytes 2 0 ++ toBytes 2 1024))) :
    (offering state x).offers x [] 0x11 ∧ ((offering state x).rightsOf maintain).allowView = true ∧ state.checking = false
      ∧ x.content = BankName.a.code :: BitVec.ofNat 8 TableKind.indications.code :: (toBytes 2 0 ++ toBytes 2 1024)
      ∧ 1024 * TableKind.indications.entrySize ≤ 1024 ∧ 0 + 1024 ≤ TableKind.indications.entries
      ∧ (¬((3 : Byte).toNat = 1 ∨ (3 : Byte).toNat = 2) ∧ ¬(1 ≤ (10 : Byte).toNat ∧ (10 : Byte).toNat ≤ 9))
      ∧ tableKindOf (9 : Byte).toNat = some .issue ∧ 1024 < 1025 * TableKind.indications.entrySize
      ∧ ({ state with tables := { state.tables with check := some context } } : State).checking = true
      ∧ TableKind.issue.entries < TableKind.issue.entries + 1 := by
  subst h
  refine ⟨offers_offering _ _ _ rfl, ?_, rfl, ?_, ?_, ?_, ?_, ?_, ?_, rfl, ?_⟩ <;> decide +kernel

/-- What the requests of R148, R149 and R150 need: a free table store, a busy one, and one with no bank active. -/
theorem meets_CopyActiveCopiesTheBank :
    (offering state (message maintain 0x12 [])).offers (message maintain 0x12 []) [] 0x12
      ∧ (offering state (message maintain 0x12 [])).rightsOf maintain = .maintain ∧ (message maintain 0x12 []).content = []
      ∧ State.reset.tables.selection = none ∧ state.tables.selection ≠ none
      ∧ ({ state.tables with switchPending := true } : TableStore).switchPending = true ∧ state.active? = some bank
      ∧ bank.state = .checkedGood result counts ∧ state.checking = false ∧ state.tables.switchPending = false :=
  ⟨offers_offering _ _ _ rfl, by decide +kernel, by decide +kernel, rfl, by decide, rfl, rfl, rfl, rfl, rfl⟩

theorem meets_ClearStandbyEmptiesTheBank :
    (offering state (message maintain 0x13 [])).offers (message maintain 0x13 []) [] 0x13
      ∧ (offering state (message maintain 0x13 [])).rightsOf maintain = .maintain ∧ (message maintain 0x13 []).content = []
      ∧ ({ state.tables with switchPending := true } : TableStore).switchPending = true ∧ state.checking = false
      ∧ state.tables.standby = { memory := [], state := .empty } :=
  ⟨offers_offering _ _ _ rfl, by decide +kernel, by decide +kernel, rfl, rfl, rfl⟩

theorem meets_CheckTablesOpensTheContext :
    (offering state (message maintain 0x14 [])).offers (message maintain 0x14 []) [] 0x14
      ∧ (offering state (message maintain 0x14 [])).rightsOf maintain = .maintain ∧ (message maintain 0x14 []).content = []
      ∧ ({ state with tables := { state.tables with check := some context } } : State).checking = true ∧ state.checking = false
      ∧ state.tables.switchPending = false :=
  ⟨offers_offering _ _ _ rfl, by decide +kernel, by decide +kernel, rfl, rfl, rfl⟩

theorem meets_SwitchTablesBecomesPending (x : RxMessage) (h : x = message maintain 0x15 (toBytes 4 result.crc.toNat)) :
    (offering state x).offers x [] 0x15 ∧ (offering state x).rightsOf maintain = .maintain
      ∧ x.content = toBytes 4 result.crc.toNat ∧ state.loop.state = .running ∧ (flying .survey .survey 0).loop.state = .survey
      ∧ ¬state.tables.standby.passed ∧ bank.passed ∧ bank.crc? = some result.crc ∧ bank.crc? ≠ some (result.crc + 1) := by
  subst h
  refine ⟨offers_offering _ _ _ rfl, ?_, ?_, rfl, rfl, ?_, ⟨_, _, rfl⟩, rfl, ?_⟩
  on_goal 3 => rintro ⟨_, _, h⟩; cases h
  all_goals decide +kernel

/-- Bank B CHECKED_GOOD as the standby of no active bank. -/
def commissioned (st : LoopState) : State :=
  { State.reset with
    tables := { TableStore.reset with bankA := bank }, loop := { LoopController.reset with state := st } }

/-- Bank B pending behind bank A, in a state with that loop. -/
def switching (s : State) : State := { s with tables := { s.tables with bankB := bank, switchPending := true } }

theorem meets_SwitchTakesEffect (x : RxMessage) (h : x = message maintain 0x15 (toBytes 4 result.crc.toNat)) :
    (queued 511).report.queue.length < 512
      ∧ (∀ st ∈ [LoopState.idle, LoopState.down], (offering (commissioned st) x).offers x [] 0x15
          ∧ (offering (commissioned st) x).rightsOf maintain = .maintain ∧ (commissioned st).checking = false
          ∧ (commissioned st).tables.switchPending = false ∧ (commissioned st).tables.standby.state = .checkedGood result counts
          ∧ x.content = toBytes 4 result.crc.toNat ∧ (commissioned st).loop.inFlight = none ∧ (commissioned st).loop.state = st
          ∧ (commissioned st).report.queue.length < 512 ∧ (commissioned st).loop.positions.length = 32
          ∧ ∃ t, exec .switchTables (offering (commissioned st) x) = .next t)
      ∧ ∀ s ∈ [state, flying .running .read 1, flying .survey .survey 2], (switching s).active? = some bank
          ∧ (switching s).loop.sweepTimer = some 8 ∧ (switching s).tables.switchPending = true
          ∧ ((switching s).loop.state = .survey ∨ (switching s).loop.state = .running) ∧ (switching s).report.queue.length < 512
          ∧ (switching s).loop.positions.length = 32 ∧ ∃ t, exec .sweepDue (switching s) = .next t := by
  subst h
  refine ⟨by decide +kernel, ?_, ?_⟩
  · intro st _
    exact ⟨offers_offering _ _ _ rfl, rfl, rfl, rfl, rfl, by decide +kernel, rfl, rfl,
      (by decide : State.reset.report.queue.length < 512), (by decide : LoopController.reset.positions.length = 32), ⟨_, rfl⟩⟩
  · intro s hs
    simp only [List.mem_cons, List.not_mem_nil, or_false] at hs
    rcases hs with rfl | rfl | rfl
    · exact ⟨rfl, rfl, rfl, by decide, by decide, by decide, ⟨_, rfl⟩⟩
    · exact ⟨rfl, rfl, rfl, by decide, by decide, by decide, ⟨_, rfl⟩⟩
    · exact ⟨rfl, rfl, rfl, by decide, by decide, by decide, ⟨_, rfl⟩⟩

/-- A switch that the end of the restart delay finds pending. -/
theorem meets_SwitchTakesEffect_delay (s : State) (h : s = switching { state with loop := { LoopController.reset with
    state := .survey, restartDelay := some 0 } }) :
    s.active? = some bank ∧ s.loop.restartDelay = some 0 ∧ s.loop.inFlight = none ∧ s.tables.switchPending = true
      ∧ s.loop.state = .survey ∧ s.report.queue.length < 512 ∧ s.loop.positions.length = 32
      ∧ ∃ t, exec .restartSurveyDelay s = .next t := by
  subst h
  exact ⟨rfl, rfl, rfl, rfl, rfl, by decide, by decide, ⟨_, rfl⟩⟩

/-- A sweep lost at the switch: not the third in a row, and the third. -/
theorem meets_SwitchTakesEffect_lost (third : State → Bool)
    (h : third = fun s => s.loop.inFlight.isSome && decide (2 ≤ s.loop.lostCount) && decide (s.loop.state ≠ .down)) :
    third (switching (flying .running .read 1)) = false ∧ third (switching (flying .survey .survey 2)) = true := by
  subst h
  decide

/-- An Ethernet frame to an own address from a source, with a message and its FCS. -/
def ethernet (own source : Mac) (body : List Byte) : List Byte :=
  let f := toBytes 6 own.toNat ++ toBytes 6 source.toNat ++ [0xB7, 0xE2] ++ body
  f ++ toBytesLsbFirst 4 (crc32 f).toNat

theorem meets_ReceivedFrameIsSorted :
    ({ state.desk with linkUp := true } : DeskPort).linkUp = true ∧ fcsGood (List.replicate 17 0) = false
      ∧ fcsGood (ethernet maintain control [1, 0]) = true ∧ fieldAt (ethernet maintain control [1, 0]) 0 6 ≠ state.desk.ownAddress.toNat
      ∧ fcsGood (ethernet state.desk.ownAddress control [1, 0]) = true
      ∧ fieldAt (ethernet state.desk.ownAddress control [1, 0]) 0 6 = state.desk.ownAddress.toNat
      ∧ fieldAt (ethernet state.desk.ownAddress control [1, 0]) 12 2 = 0xB7E2 := by decide +kernel

theorem meets_FramesLeaveInOrder (d : DeskPort) (h : d = { state.desk with sendList := [replyFrame control 7 1 .ok []], linkUp := true }) :
    d.sendList = replyFrame control 7 1 .ok [] :: [] ∧ d.linkUp = true ∧ state.desk.linkUp = false := by
  subst h
  exact ⟨rfl, rfl, rfl⟩

theorem meets_IdentifyIsAnswered :
    (offering state (message control 0x01 [])).offers (message control 0x01 []) [] 0x01
      ∧ ((offering state (message control 0x01 [])).rightsOf control).allowView = true ∧ (message control 0x01 []).content = [] :=
  ⟨offers_offering _ _ _ rfl, by decide +kernel, by decide +kernel⟩

theorem meets_ReadStatusIsAnswered :
    (offering state (message control 0x02 [])).offers (message control 0x02 []) [] 0x02
      ∧ ((offering state (message control 0x02 [])).rightsOf control).allowView = true ∧ (message control 0x02 []).content = []
      ∧ (forced 32).length ≤ 32 ∧ state.request.slots.length ≤ 8 :=
  ⟨offers_offering _ _ _ rfl, by decide +kernel, by decide +kernel, by decide, by decide⟩

theorem meets_StatisticsAreReadAndCleared :
    (message maintain 0x03 []).content = [] ∧ state.checking = false
      ∧ (offering state (message maintain 0x03 [])).offers (message maintain 0x03 []) [] 0x03
      ∧ ((offering state (message maintain 0x03 [])).rightsOf maintain).allowView = true
      ∧ (offering state (message maintain 0x04 [])).offers (message maintain 0x04 []) [] 0x04
      ∧ (offering state (message maintain 0x04 [])).rightsOf maintain = .maintain :=
  ⟨by decide +kernel, rfl, offers_offering _ _ _ rfl, by decide +kernel, offers_offering _ _ _ rfl, by decide +kernel⟩

/-- A request without rights, one without its form, and one with both that a check in progress meets. -/
theorem meets_RightsComeFirstThenBusy (s : State) (h : s = { state with tables := { state.tables with check := some context } }) :
    (∃ p ∈ managementRequests, p.1 = .forceInput ∧ p.2.1 = 0x21
        ∧ (offering state (message 5 0x21 [])).offers (message 5 0x21 []) [] 0x21
        ∧ p.2.2.1 ((offering state (message 5 0x21 [])).rightsOf 5) = false
        ∧ p.2.2.1 ((offering state (message maintain 0x21 [0, 2, 2])).rightsOf maintain) = true
        ∧ p.2.2.2 (message maintain 0x21 [0, 2, 2]).content = false
        ∧ (offering s (message maintain 0x21 [0, 2, 1])).offers (message maintain 0x21 [0, 2, 1]) [] 0x21
        ∧ p.2.2.1 ((offering s (message maintain 0x21 [0, 2, 1])).rightsOf maintain) = true
        ∧ p.2.2.2 (message maintain 0x21 [0, 2, 1]).content = true)
      ∧ .forceInput ∈ busyDuringCheck ∧ s.checking = true := by
  subst h
  refine ⟨⟨_, List.getElem_mem (show 12 < managementRequests.length by decide), ?_⟩, by decide, rfl⟩
  exact ⟨rfl, rfl, offers_offering _ _ _ rfl, by decide +kernel, by decide +kernel, by decide +kernel, offers_offering _ _ _ rfl,
    by decide +kernel, by decide +kernel⟩

theorem meets_UnknownAnsweredAndControlDropped :
    (offering state (message 5 0x7F [])).desk.receiveQueue = message 5 0x7F [] :: [] ∧ (message 5 0x7F []).kind ∉ knownKinds
      ∧ (offering state (message maintain 0x41 [5])).offers (message maintain 0x41 [5]) [] 0x41
      ∧ (offering state (message maintain 0x41 [5])).rightsOf maintain ≠ .control
      ∧ (message control 0x41 [5, 0]).content.length ≠ 1 :=
  ⟨rfl, by decide, offers_offering _ _ _ rfl, by decide +kernel, by decide +kernel⟩

/-- The state with a slot occupied meets every invariant, and a step answers from it. -/
theorem meets_StepsKeepTheQueuesBounded :
    (occupied (slot 5 0 .on)).receiveQueueGood ∧ (occupied (slot 5 0 .on)).reportQueueGood
      ∧ ∃ t, step (occupied (slot 5 0 .on)) = .next t := by
  refine ⟨?_, ⟨?_, ?_⟩, ⟨_, rfl⟩⟩
  · unfold State.receiveQueueGood; decide
  · decide
  · exact fun _ => ⟨rfl, rfl, rfl⟩

theorem meets_StepsKeepForcedListAndPositions (s : State) (h : s = { state with filter := { inputs := [], forced := forced 32 } }) :
    s.forcedListGood ∧ s.positionsGood ∧ ∃ t, step s = .next t := by
  subst h
  refine ⟨⟨?_, ?_, ?_⟩, ⟨?_, ?_, ?_, ?_, ?_⟩, ⟨_, rfl⟩⟩
  on_goal 8 =>
    intro sw h
    cases h
  all_goals decide +kernel

theorem meets_StepsKeepTheBanks : state.banksGood ∧ state.periodGood ∧ ∃ t, step state = .next t := by
  refine ⟨⟨?_, rfl, ?_, ?_, ?_⟩, ?_, ⟨_, rfl⟩⟩
  · exact test_memory_wf
  · intro n h
    cases h
    exact ⟨_, _, rfl⟩
  · intro c h
    cases h
  · intro h
    cases h
  · intro b p hb hp
    cases hb
    cases hp
    decide

theorem meets_StepsKeepTheRequests :
    (occupied (slot 5 0 .on)).placesGood ∧ (occupied (slot 5 0 .on)).authorityGood ∧ ∃ t, step (occupied (slot 5 0 .on)) = .next t := by
  refine ⟨⟨?_, ?_⟩, ?_, ⟨_, rfl⟩⟩
  · decide
  · decide
  · intro h
    cases h

theorem meets_StepsKeepOutputsApart (s : State)
    (h : s = { authorised with
      request := { authorised.request with slots := [some (slot 5 0 .on), some (slot 6 0 .on)], blocked := [18] } }) :
    s.outputsApart ∧ ∃ t, step s = .next t := by
  subst h
  refine ⟨⟨?_, ?_⟩, ⟨_, rfl⟩⟩ <;> decide +kernel

theorem meets_StepsKeepTheImage (s : State) (h : s = { state with evaluator := { state.evaluator with objects := image } }) :
    s.imageGood ∧ ∃ t, step s = .next t := by
  subst h
  refine ⟨⟨by decide +kernel, ?_⟩, ⟨_, rfl⟩⟩
  intro j o h
  match j, h with
  | 0, h =>
    cases h
    decide +kernel
  | k + 1, h => simp [image] at h

theorem meets_OnlySwitchesChangeTheActiveBank :
    state.banksGood ∧ state.tables.switchPending = false ∧ ∃ t, exec .clearStandby (offering state (message maintain 0x13 [])) = .next t :=
  ⟨meets_StepsKeepTheBanks.1, rfl, ⟨_, rfl⟩⟩

theorem meets_OnlyOperateOccupiesASlot : Instr.sweepDue ≠ .operate ∧ ∃ t, exec .sweepDue (occupied (slot 5 0 .on)) = .next t :=
  ⟨by decide, ⟨_, rfl⟩⟩

end Sys2Proof.Tests
end

section
/-! Markers and the report queue (R106, R107): where an offered marker goes, and the marker of the return from OVERRUN. -/

namespace Sys2Proof.Machine

theorem ReportUnit.offerMarker_of_room (r : ReportUnit) (m : Record) (h : r.queue.length < 512) :
    r.offerMarker m = { r with queue := r.queue ++ [m] } :=
  if_pos h

theorem ReportUnit.offerMarker_of_no_room (r : ReportUnit) (m : Record) (h : 512 ≤ r.queue.length) :
    r.offerMarker m = { r with markersLost := r.markersLost + 1 } :=
  if_neg (Nat.not_lt.mpr h)

theorem ReportUnit.returnToNormal_of_overrun (r : ReportUnit) (limit : Nat) (hstate : r.queueState = .overrun)
    (hlen : r.queue.length ≤ limit / 4) :
    r.returnToNormal limit =
      { ({ r with queueState := .normal }).offerMarker (.resync r.timeBase r.lostCount r.firstLost r.lastLost) with
        lostCount := 0, firstLost := none, lastLost := none } :=
  if_pos ⟨hstate, hlen⟩

/-- Step 2 of R107 never meets a full queue: a quarter of a queue limit of at most 512 leaves room for the RESYNC marker. -/
theorem ReportUnit.returnToNormal_places_resync (r : ReportUnit) (limit : Nat) (hlimit : limit ≤ 512)
    (hstate : r.queueState = .overrun) (hlen : r.queue.length ≤ limit / 4) :
    r.returnToNormal limit =
      { r with
        queue := r.queue ++ [.resync r.timeBase r.lostCount r.firstLost r.lastLost]
        queueState := .normal, lostCount := 0, firstLost := none, lastLost := none } := by
  have room : r.queue.length < 512 := by omega
  rw [r.returnToNormal_of_overrun limit hstate hlen, ReportUnit.offerMarker_of_room { r with queueState := .normal } _ room]

/-- Settles O33: the queue's length decides where a marker goes, and at most a quarter of the limit stands at a RESYNC marker. -/
theorem markersUseTheRoomAboveTheLimit : Obligations.MarkersUseTheRoomAboveTheLimit := by
  intro r m
  refine ⟨r.offerMarker_of_room m, fun full => r.offerMarker_of_no_room m full.ge, r.offerMarker_queueState m,
    r.offerMarker_lostCount m, r.offerMarker_firstLost m, r.offerMarker_lastLost m, ?_⟩
  intro limit hlimit hstate hlen
  rw [r.returnToNormal_places_resync limit hlimit hstate hlen]
  exact ⟨rfl, rfl⟩

end Sys2Proof.Machine
end

section
/-! COPY_ACTIVE and CLEAR_STANDBY (R148, R149): both put a bank in the standby's place and answer OK, unless they refuse. -/

namespace Sys2Proof.Machine

/-! ### Another bank in the standby's place -/

/-- The state once message `x` has left the receive queue and been answered OK, with bank `b` as the standby. -/
def State.answeredWithStandby (s : State) (x : RxMessage) (rest : List RxMessage) (kind : Byte) (b : Bank) : State :=
  ((s.afterTaking rest).onTables fun t => t.setStandby b).repliedTo x kind .ok []

@[simp] theorem State.answeredWithStandby_tables (s : State) (x : RxMessage) (rest : List RxMessage) (kind : Byte) (b : Bank) :
    (s.answeredWithStandby x rest kind b).tables = s.tables.setStandby b := rfl

@[simp] theorem State.answeredWithStandby_desk (s : State) (x : RxMessage) (rest : List RxMessage) (kind : Byte) (b : Bank) :
    (s.answeredWithStandby x rest kind b).desk = ((s.afterTaking rest).repliedTo x kind .ok []).desk := rfl

theorem State.answeredWithStandby_frame (s : State) (x : RxMessage) (rest : List RxMessage) (kind : Byte) (b : Bank) :
    { s.answeredWithStandby x rest kind b with tables := s.tables, desk := s.desk } = s := rfl

/-- The active bank is never the standby (R141), so it stays as it was. -/
@[simp] theorem State.answeredWithStandby_active (s : State) (x : RxMessage) (rest : List RxMessage) (kind : Byte) (b : Bank) :
    (s.answeredWithStandby x rest kind b).active? = s.active? := by
  cases hsel : s.tables.selection with
  | none => simp [State.active?, hsel]
  | some n => simp [State.active?, hsel, s.tables.bank_setStandby b n (s.tables.standbyName_ne n hsel)]

theorem State.active_eq_none_iff (s : State) : s.active? = none ↔ s.tables.selection = none :=
  Option.map_eq_none_iff

/-- A request without content that asks for MAINTAIN rights comes from a sender who has them to the rule that owns it (R166, R168). -/
theorem State.management_maintain (s : State) (x : RxMessage) (rest : List RxMessage) (kind : Byte) (rule : State → Taken → State)
    (offered : s.offers x rest kind) (rights : s.rightsOf x.source = .maintain) (content : x.content = []) :
    s.management kind Rights.allowMaintain (exactly 0) rule = rule (s.afterTaking rest) x.taken :=
  s.management_taken x rest kind _ _ rule offered (by simp [rights, Rights.allowMaintain]) (by simp [content, exactly])

/-! ### COPY_ACTIVE -/

section
variable {s : State} {x : RxMessage} {rest : List RxMessage}

theorem exec_copyActive_of_no_active (offered : s.offers x rest 0x12) (rights : s.rightsOf x.source = .maintain)
    (content : x.content = []) (inactive : s.active? = none) :
    exec .copyActive s = .next ((s.afterTaking rest).repliedTo x 0x12 .noActive []) := by
  show Host.Outcome.next _ = _
  rw [s.management_maintain x rest _ _ offered rights content]
  simp [inactive]

theorem exec_copyActive_of_active {b : Bank} (offered : s.offers x rest 0x12) (rights : s.rightsOf x.source = .maintain)
    (content : x.content = []) (active : s.active? = some b) :
    exec .copyActive s = .next (if (s.afterTaking rest).tablesBusy then (s.afterTaking rest).repliedTo x 0x12 .busy []
      else s.answeredWithStandby x rest 0x12 b) := by
  show Host.Outcome.next _ = _
  rw [s.management_maintain x rest _ _ offered rights content]
  simp only [State.afterTaking_active, active, State.refuse_taken, State.answer_taken, State.answeredWithStandby]

end

/-- Settles O40: refused without an active bank or with the table store busy, else the whole active bank is the new standby, which
gives the standby its images, state, CRC, check result and count set. -/
theorem copyActiveCopiesTheBank : Obligations.CopyActiveCopiesTheBank := by
  intro s x rest offered rights content
  refine ⟨?noActive, ?busy, ?copied⟩
  case noActive =>
    intro unselected
    exact exec_copyActive_of_no_active offered rights content (s.active_eq_none_iff.mpr unselected)
  case busy =>
    intro selected busy
    obtain ⟨b, active⟩ := Option.ne_none_iff_exists'.mp (mt s.active_eq_none_iff.mp selected)
    rw [exec_copyActive_of_active offered rights content active, if_pos (s.afterTaking_busy rest busy)]
  case copied =>
    intro b r counts active good unchecked unswitched
    have free : ¬(s.afterTaking rest).tablesBusy = true := by simp [s.afterTaking_free rest unchecked unswitched]
    refine ⟨s.answeredWithStandby x rest 0x12 b, ?_, ?_⟩
    · rw [exec_copyActive_of_active offered rights content active, if_neg free]
    · simp [active, good, unswitched, s.answeredWithStandby_frame]

/-! ### CLEAR_STANDBY -/

theorem exec_clearStandby_offers {s : State} {x : RxMessage} {rest : List RxMessage} (offered : s.offers x rest 0x13)
    (rights : s.rightsOf x.source = .maintain) (content : x.content = []) :
    exec .clearStandby s = .next (if (s.afterTaking rest).tablesBusy then (s.afterTaking rest).repliedTo x 0x13 .busy []
      else s.answeredWithStandby x rest 0x13 Bank.reset) := by
  show Host.Outcome.next _ = _
  rw [s.management_maintain x rest _ _ offered rights content]
  simp only [State.refuse_taken, State.answer_taken, State.answeredWithStandby]

/-- Settles O41: refused with the table store busy, else the EMPTY bank is the new standby; put in place of an EMPTY one, it changes
nothing. -/
theorem clearStandbyEmptiesTheBank : Obligations.ClearStandbyEmptiesTheBank := by
  intro s x rest offered rights content
  refine ⟨?busy, ?cleared⟩
  case busy =>
    intro busy
    rw [exec_clearStandby_offers offered rights content, if_pos (s.afterTaking_busy rest busy)]
  case cleared =>
    intro unchecked unswitched
    have free : ¬(s.afterTaking rest).tablesBusy = true := by simp [s.afterTaking_free rest unchecked unswitched]
    have already_empty (empty : s.tables.standby = Bank.reset) : s.tables.setStandby Bank.reset = s.tables := by
      rw [← empty, s.tables.setStandby_self]
    refine ⟨s.answeredWithStandby x rest 0x13 Bank.reset, ?_, ?_⟩
    · rw [exec_clearStandby_offers offered rights content, if_neg free]
    · simp only [State.answeredWithStandby_tables, TableStore.standby_setStandby]
      exact ⟨fun _ => rfl, rfl, rfl, rfl, rfl, s.tables.bank_setStandby Bank.reset, s.tables.setStandby_selection Bank.reset,
        already_empty, rfl, s.answeredWithStandby_frame x rest 0x13 Bank.reset⟩

end Sys2Proof.Machine
end

section
/-! IDENTIFY (R169): the reply OK with the part's identity, whatever the state of the part; a check in progress does not refuse it. -/

namespace Sys2Proof.Machine

/-- A request without content that asks for VIEW rights comes from a sender who has them to the rule that owns it (R166, R168). -/
theorem State.management_view (s : State) (x : RxMessage) (rest : List RxMessage) (kind : Byte) (rule : State → Taken → State)
    (offered : s.offers x rest kind) (rights : (s.rightsOf x.source).allowView = true) (content : x.content = []) :
    s.management kind Rights.allowView (exactly 0) rule = rule (s.afterTaking rest) x.taken :=
  s.management_taken x rest kind _ _ rule offered rights (by simp [content, exactly])

/-- What IDENTIFY tells does not depend on the messages that wait behind it. -/
@[simp] theorem State.identifyData_afterTaking (s : State) (rest : List RxMessage) (source : Mac) :
    (s.afterTaking rest).identifyData source = s.identifyData source := rfl

/-- The data of IDENTIFY one item at a time, in the order of R178. -/
theorem State.identifyData_items (s : State) (source : Mac) :
    s.identifyData source =
      toBytes 2 7120 ++ [1] ++ toBytes 6 s.desk.ownAddress.toNat ++ [(s.rightsOf source).code] ++ [selectionByte s.tables.selection]
        ++ toBytes 4 ((s.active?.bind Bank.crc?).getD 0).toNat ++ toBytes 6 s.report.timeBase.toNat ++ [flagByte s.report.timeValid]
        ++ issueBytes (s.active?.bind fun b => b.memory.issueValue? keywordSI)
        ++ issueBytes (s.active?.bind fun b => b.memory.issueValue? keywordTI) := by
  simp [State.identifyData, State.now]

theorem exec_identify_offers {s : State} {x : RxMessage} {rest : List RxMessage} (offered : s.offers x rest 0x01)
    (rights : (s.rightsOf x.source).allowView = true) (content : x.content = []) :
    exec .identify s = .next ((s.afterTaking rest).repliedTo x 0x01 .ok (s.identifyData x.source)) := by
  show Host.Outcome.next _ = _
  rw [s.management_view x rest _ _ offered rights content]
  simp only [State.answer_taken, RxMessage.taken_source, State.identifyData_afterTaking]

/-- Settles O47: the rule answers OK at once, and its data has the coded selection in each of the three cases, NONE, A and B. -/
theorem identifyIsAnswered : Obligations.IdentifyIsAnswered := by
  intro s x rest offered rights content
  rw [exec_identify_offers offered rights content, s.identifyData_items]
  rcases s.tables.selection with _ | ⟨_ | _⟩
  case none => rfl
  case some.a => rfl
  case some.b => rfl

end Sys2Proof.Machine
end

section
/-! The position records' ranges (R1, R3, R9 to R11, section 1.4) as a property of the loop controller, kept by each of its operations. -/

namespace Sys2Proof.Machine

/-- One position record in its ranges: missed reads to 3 (R11), the corrupt score to 71 and, but at an ISOLATED position, to 63 (R9, R10). -/
def PositionRecord.good (r : PositionRecord) : Prop := r.missed ≤ 3 ∧ r.score ≤ 71 ∧ (r.judged ≠ .isolated → r.score ≤ 63)

/-- In RUNNING, the sweep in flight asks no ISOLATED position (R3). -/
def LoopController.asksNoIsolated (l : LoopController) : Prop :=
  ∀ sw, l.inFlight = some sw → l.state = .running → ∀ p, p < 32 → sw.mask.getLsbD p = true → (l.position p).judged ≠ .isolated

/-- 32 position records, each in its ranges. -/
def LoopController.recordsGood (l : LoopController) : Prop := l.positions.length = 32 ∧ ∀ r ∈ l.positions, r.good

/-- What `State.positionsGood` says, record by record. -/
def LoopController.good (l : LoopController) : Prop := l.recordsGood ∧ l.phase < 4 ∧ l.asksNoIsolated

theorem State.positionsGood_iff (s : State) : s.positionsGood ↔ s.loop.good := by
  constructor
  · rintro ⟨len, missed, phase, score, asks⟩
    exact ⟨⟨len, fun r hr => ⟨missed r hr, score r hr⟩⟩, phase, asks⟩
  · rintro ⟨⟨len, records⟩, phase, asks⟩
    exact ⟨len, fun r hr => (records r hr).1, phase, fun r hr => (records r hr).2, asks⟩

/-! ### One record -/

theorem PositionRecord.reset_good : PositionRecord.reset.good := ⟨by decide, by decide, fun _ => by decide⟩

theorem PositionRecord.good.miss {r : PositionRecord} (h : r.good) : r.miss.good := by
  obtain ⟨-, score⟩ := h
  exact ⟨Nat.min_le_left _ _, score⟩

theorem PositionRecord.good.accept {r : PositionRecord} (h : r.good) (low : Bool) : (r.accept low).good := by
  obtain ⟨-, high, low⟩ := h
  simp only [PositionRecord.good, PositionRecord.accept]
  exact ⟨by omega, by omega, fun hj => by have := low hj; omega⟩

/-- A corrupt report raises the score of a position that is not ISOLATED, to 71 at most, and at 64 isolates it (R10). -/
theorem PositionRecord.good.corrupt {r : PositionRecord} (h : r.good) (unisolated : r.judged ≠ .isolated) :
    ({ r with score := r.score + 8, judged := if 64 ≤ r.score + 8 then .isolated else r.judged } : PositionRecord).good := by
  obtain ⟨missed, -, low⟩ := h
  have := low unisolated
  refine ⟨missed, by dsimp only; omega, fun hj => ?_⟩
  by_cases h : 64 ≤ r.score + 8
  · simp [h] at hj
  · dsimp only; omega

theorem PositionRecord.good.takeSwitch {r : PositionRecord} (h : r.good) (m : Memory) (p : Nat) : (r.takeSwitch m p).good := by
  obtain ⟨missed, -, -⟩ := h
  unfold PositionRecord.takeSwitch
  split
  · exact ⟨by simp, by simp, by simp⟩
  · split <;> exact ⟨missed, by simp, by simp⟩

theorem PositionRecord.good.judge {r : PositionRecord} (h : r.good) (m : Memory) (cards : List Card) (p : Nat) :
    (r.judge m cards p).good := by
  obtain ⟨missed, high, low⟩ := h
  unfold PositionRecord.judge
  by_cases isolated : r.judged = .isolated
  · rw [if_pos isolated]
    exact ⟨missed, high, low⟩
  · have low := low isolated
    simp only [isolated, if_false]
    split
    · exact ⟨missed, high, fun _ => low⟩
    · split
      · exact ⟨missed, high, fun _ => low⟩
      · split
        · split
          · exact ⟨missed, high, fun _ => low⟩
          · exact ⟨Nat.le_refl 3, high, fun _ => low⟩
        · exact ⟨missed, high, fun _ => low⟩

/-! ### All records -/

theorem LoopController.reset_recordsGood : LoopController.reset.recordsGood := by
  refine ⟨rfl, fun r hr => ?_⟩
  rw [List.eq_of_mem_replicate hr]
  exact PositionRecord.reset_good

theorem LoopController.recordsGood.mapIdx {l : LoopController} (h : l.recordsGood) (f : Nat → PositionRecord → PositionRecord)
    (keeps : ∀ p r, r.good → (f p r).good) : ({ l with positions := l.positions.mapIdx f } : LoopController).recordsGood := by
  obtain ⟨len, records⟩ := h
  refine ⟨by simpa using len, fun r hr => ?_⟩
  obtain ⟨p, hp, rfl⟩ := List.mem_mapIdx.mp hr
  exact keeps p _ (records _ (List.getElem_mem hp))

theorem LoopController.recordsGood.map {l : LoopController} (h : l.recordsGood) (f : PositionRecord → PositionRecord)
    (keeps : ∀ r, r.good → (f r).good) : ({ l with positions := l.positions.map f } : LoopController).recordsGood := by
  obtain ⟨len, records⟩ := h
  refine ⟨by simpa using len, fun r hr => ?_⟩
  obtain ⟨u, hu, rfl⟩ := List.mem_map.mp hr
  exact keeps u (records u hu)

/-- The record at a place of the table, and the place of a record in the table. -/
theorem LoopController.position_eq_getElem (l : LoopController) (p : Nat) (hp : p < l.positions.length) :
    l.position p = l.positions[p] := by
  simp [LoopController.position, List.getD_eq_getElem?_getD, hp]

theorem LoopController.recordsGood.position {l : LoopController} (h : l.recordsGood) (p : Nat) : (l.position p).good := by
  by_cases hp : p < l.positions.length
  · rw [l.position_eq_getElem p hp]
    exact h.2 _ (List.getElem_mem hp)
  · rw [LoopController.position, List.getD_eq_default _ _ (by omega)]
    exact PositionRecord.reset_good

/-- The record at `p` after the one at `q` has been changed. -/
theorem LoopController.position_modifyPosition (l : LoopController) (q : Nat) (f : PositionRecord → PositionRecord) (p : Nat)
    (len : l.positions.length = 32) (hp : p < 32) :
    (l.modifyPosition q f).position p = if q = p then f (l.position p) else l.position p := by
  simp only [LoopController.modifyPosition, LoopController.position, List.getD_eq_getElem?_getD, List.getElem?_modify]
  rw [List.getElem?_eq_getElem (by omega)]
  simp

theorem LoopController.recordsGood.modifyPosition {l : LoopController} (h : l.recordsGood) (q : Nat)
    (f : PositionRecord → PositionRecord) (keeps : (l.position q).good → (f (l.position q)).good) : (l.modifyPosition q f).recordsGood := by
  obtain ⟨len, records⟩ := h
  have len' : (l.modifyPosition q f).positions.length = 32 := by simpa [LoopController.modifyPosition] using len
  refine ⟨len', fun r hr => ?_⟩
  obtain ⟨p, hp, rfl⟩ := List.mem_iff_getElem.mp hr
  rw [← LoopController.position_eq_getElem _ p hp, l.position_modifyPosition q f p len (by omega)]
  have good := LoopController.recordsGood.position ⟨len, records⟩ p
  split
  · rename_i hq
    subst hq
    exact keeps good
  · exact good

/-! ### Operations that leave no sweep in flight, or leave RUNNING -/

theorem LoopController.asksNoIsolated_of_none {l : LoopController} (h : l.inFlight = none) : l.asksNoIsolated := by
  intro sw hsw
  simp [h] at hsw

theorem LoopController.asksNoIsolated_of_not_running {l : LoopController} (h : l.state ≠ .running) : l.asksNoIsolated :=
  fun _ _ running => absurd running h

/-- Where the sweep in flight and the loop state stay, it is enough that no position becomes ISOLATED. -/
theorem LoopController.asksNoIsolated.of_judged {l l' : LoopController} (h : l.asksNoIsolated) (flight : l'.inFlight = l.inFlight)
    (state : l'.state = l.state) (judged : ∀ p, p < 32 → (l'.position p).judged = .isolated → (l.position p).judged = .isolated) :
    l'.asksNoIsolated := by
  intro sw hsw running p hp hm isolated
  exact h sw (flight ▸ hsw) (state ▸ running) p hp hm (judged p hp isolated)

theorem LoopController.reset_good : LoopController.reset.good :=
  ⟨LoopController.reset_recordsGood, by decide, LoopController.asksNoIsolated_of_none rfl⟩

theorem LoopController.good.restart (l : LoopController) (survey : Option Nat) : (l.restart survey).good := by
  cases survey <;> exact ⟨LoopController.reset_recordsGood, Nat.zero_lt_succ 3, LoopController.asksNoIsolated_of_none rfl⟩

theorem LoopController.recordsGood.countMissed {l : LoopController} (h : l.recordsGood) (which : Nat → Bool) :
    (l.countMissed which).recordsGood := by
  refine h.mapIdx _ fun p r hr => ?_
  split
  · exact hr.miss
  · exact hr

theorem LoopController.good.loseSweep {l : LoopController} (h : l.good) (m : Memory) (sw : Sweep) : (l.loseSweep m sw).good := by
  obtain ⟨records, phase, -⟩ := h
  unfold LoopController.loseSweep
  dsimp only
  have counted (which : Nat → Bool) := LoopController.recordsGood.countMissed
    (l := { l with sweepsLost := l.sweepsLost + 1, lostCount := l.lostCount + 1, inFlight := none }) records which
  split
  · exact ⟨counted _, phase, LoopController.asksNoIsolated_of_none rfl⟩
  · exact ⟨counted _, phase, LoopController.asksNoIsolated_of_none rfl⟩

theorem LoopController.good.enterDown {l : LoopController} (h : l.good) : l.enterDown.good := by
  obtain ⟨records, phase, -⟩ := h
  refine ⟨?_, phase, LoopController.asksNoIsolated_of_none rfl⟩
  refine records.map (fun r => if r.judged = .active then { r with missed := 3 } else r) fun r hr => ?_
  obtain ⟨missed, score⟩ := hr
  split
  · exact ⟨Nat.le_refl 3, score⟩
  · exact ⟨missed, score⟩

theorem LoopController.good.enterSurvey {l : LoopController} (h : l.good) : l.enterSurvey.good := by
  obtain ⟨records, phase, -⟩ := h
  exact ⟨records, phase, LoopController.asksNoIsolated_of_not_running nofun⟩

/-- The loop controller once a waiting RESURVEY or READMIT_CARD has been applied (R20, R21). -/
def LoopController.resurveyed (l : LoopController) : LoopController :=
  { l.enterSurvey with
    pendingResurvey := false, pendingReadmit := [],
    positions := l.positions.mapIdx fun p r =>
      if l.pendingReadmit.contains p ∧ r.judged = .isolated then { r with judged := .missing, score := 0 } else r }

theorem LoopController.good.resurveyed {l : LoopController} (h : l.good) : l.resurveyed.good := by
  obtain ⟨records, phase, -⟩ := h
  refine ⟨?_, phase, LoopController.asksNoIsolated_of_not_running nofun⟩
  refine records.mapIdx (fun p r =>
    if l.pendingReadmit.contains p ∧ r.judged = .isolated then { r with judged := .missing, score := 0 } else r) fun p r hr => ?_
  split
  · obtain ⟨missed, -, -⟩ := hr
    exact ⟨missed, by simp, by simp⟩
  · exact hr

theorem LoopController.good.takeSwitch {l : LoopController} (h : l.good) (old : Option Memory) (m : Memory) :
    (l.takeSwitch old m).good := by
  obtain ⟨records, phase, asks⟩ := h
  have records' := records.mapIdx (fun p r => r.takeSwitch m p) fun p r hr => hr.takeSwitch m p
  have switched : LoopController.good { l with positions := l.positions.mapIdx fun p r => r.takeSwitch m p } := by
    refine ⟨records', phase, asks.of_judged rfl rfl fun p hp isolated => ?_⟩
    rw [LoopController.position_eq_getElem _ p (by simpa [records.1] using hp)] at isolated
    rw [l.position_eq_getElem p (by simpa [records.1] using hp)]
    simp only [List.getElem_mapIdx, PositionRecord.takeSwitch] at isolated
    split at isolated
    · cases isolated
    · split at isolated
      · cases isolated
      · exact isolated
  unfold LoopController.takeSwitch
  dsimp only
  split
  · exact switched.enterSurvey
  · exact switched
  · split
    · exact switched
    · exact switched.enterSurvey

/-! ### The next sweep -/

/-- Bit `p` of a read mask is set for the positions it names (R2). -/
theorem positionMask_getLsbD (f : Nat → Bool) (p : Nat) (hp : p < 32) : (positionMask f).getLsbD p = f p := by
  obtain ⟨-, h⟩ := sum_of_bits f 32
  rw [positionMask, BitVec.getLsbD_ofNat, h p hp]
  simp [hp]

/-- The loop controller once the next sweep has left (R1). -/
def LoopController.sent (l : LoopController) (sw : Sweep) (period : Nat) (frame : List Byte) : LoopController :=
  { l with
    inFlight := some sw, sweepNumber := sw.number, phase := (l.phase + 1) % 4, sweepsSent := l.sweepsSent + 1,
    sweepTimer := some period, loopOut := frame }

theorem State.nextSweep_mask_of_running (s : State) (m : Memory) (running : s.loop.state = .running) :
    (s.nextSweep m).mask = positionMask fun p => decide ((s.loop.position p).judged = .active) && m.inPhase p s.loop.phase := by
  simp [State.nextSweep, running, LoopController.readMask]

theorem State.sent_good (s : State) (m : Memory) (period : Nat) (frame : List Byte) (h : s.loop.good) :
    (s.loop.sent (s.nextSweep m) period frame).good := by
  obtain ⟨records, -, -⟩ := h
  refine ⟨records, Nat.mod_lt _ (by decide), ?_⟩
  intro sw hsw running p hp hm
  cases hsw
  rw [s.nextSweep_mask_of_running m running, positionMask_getLsbD _ p hp, Bool.and_eq_true, decide_eq_true_eq] at hm
  have active : (s.loop.position p).judged = .active := hm.1
  exact fun isolated => by
    have : (s.loop.position p).judged = .isolated := isolated
    simp [active] at this

end Sys2Proof.Machine
end

section
/-! What a step can do, said once: every step is a chain of the small changes listed by `Change`, each under the condition that the model
tests before it. An invariant of the whole part then has one case for each small change. -/

namespace Sys2Proof.Machine

/-- The judgement of authority comes out as the reason set `reasons` (R118, R121). -/
def RequestEngine.judged (r : RequestEngine) (reasons : Reasons) (stamp : Stamp) : RequestEngine :=
  if reasons.isEmpty then { r with authority := reasons.isEmpty, reasons := reasons }
  else
    ({ r with authority := reasons.isEmpty, reasons := reasons }).endSlots (fun _ => true) .abortedAuthority stamp (some reasons)

/-- Period `p` lies in the band about a nominal period (R64). -/
def inBand (nominal p : Nat) : Prop := 3 * nominal ≤ 4 * p ∧ 4 * p ≤ 5 * nominal

/-- The fields of the report unit that R104 speaks of: the queue, its state, the lost count and the two stamps. -/
def ReportUnit.sameQueue (r u : ReportUnit) : Prop :=
  u.queue = r.queue ∧ u.queueState = r.queueState ∧ u.lostCount = r.lostCount ∧ u.firstLost = r.firstLost ∧ u.lastLost = r.lastLost

/-- The fields of the request engine that R121, R124 and R128 speak of: authority, the slots, the outcomes and the blocked outputs. -/
def RequestEngine.samePlaces (r u : RequestEngine) : Prop :=
  u.authority = r.authority ∧ u.slots = r.slots ∧ u.outcomes = r.outcomes ∧ u.blocked = r.blocked

/-- One small change within command `i`. -/
inductive Change (i : Instr) : State → State → Prop
  /-- The loop controller stays in its ranges; for a returned frame that is a matter of the whole frame (`readFrame_good`). -/
  | loop (s : State) (l : LoopController) (good : (∃ frame, i = .loopInFrame frame) ∨ (s.loop.good → l.good)) :
      Change i s { s with loop := l }
  | conditions (s : State) (c : Conditions) : Change i s (s.withConditions c)
  | round (s : State) (round : List TermChange) : Change i s (s.runRound round)
  | pairs (s : State) (ps : List (Nat × PairRecord)) : Change i s { s with pairs := ps }
  | clock (s : State) (c : Clock) : Change i s { s with clock := c }
  | pending (s : State) (q : List Instr) : Change i s { s with pending := q }
  | desk (s : State) (d : DeskPort) (bounded : s.desk.receiveQueue.length ≤ 4 → d.receiveQueue.length ≤ 4) :
      Change i s { s with desk := d }
  | inputs (s : State) (xs : List (Nat × InputState)) : Change i s { s with filter := { s.filter with inputs := xs } }
  | force (s : State) (k : Nat) (v : ContactValue) (active : s.active? ≠ none)
      (room : s.filter.isForced k = true ∨ s.filter.forced.length < 32) :
      Change i s { s with filter := { s.filter with forced := forceIn k v s.filter.forced } }
  | release (s : State) (m : Memory) (k : Nat) : Change i s { s with filter := s.filter.release m k }
  | flasher (s : State) (f : FlasherMonitor)
      (period : f.period = s.flasher.period ∨ ∃ b p, s.active? = some b ∧ f.period = some p ∧ inBand b.counts.nominal p) :
      Change i s { s with flasher := f }
  | marker (s : State) (m : Record) : Change i s { s with report := s.report.offerMarker m }
  | report (s : State) (r : ReportUnit) (same : s.report.sameQueue r) : Change i s { s with report := r }
  | transfer (s : State) (limit : Nat) : Change i s { s with report := s.report.transfer.returnToNormal limit }
  | ends (s : State) (which : Slot → Bool) (result : RequestResult) (stamp : Stamp) (reasons : Option Reasons) :
      Change i s (s.onRequest fun r => r.endSlots which result stamp reasons)
  | judged (s : State) (reasons : Reasons) (stamp : Stamp) : Change i s (s.onRequest fun r => r.judged reasons stamp)
  | outcomes (s : State) (os : List OutcomeRecord) (few : os.length ≤ s.request.outcomes.length) :
      Change i s (s.onRequest fun r => { r with outcomes := os })
  | place (s : State) (o : OutcomeRecord) (free : s.request.freePlace = true) : Change i s (s.onRequest fun r => r.place o)
  | accept (s : State) (b : Bank) (tag : Word16) (q : Nat) (operate : i = .operate) (active : s.active? = some b)
      (free : s.request.freePlace = true) (passes : s.operateRefusal b tag q = none) : Change i s (s.acceptOperate b tag q)
  | bringUp (s : State) (b : Bank) (f : Slot → Slot) (stamp : Stamp)
      (keeps : ∀ sl, (f sl).tag = sl.tag ∧ (f sl).point = sl.point) :
      Change i s (s.onRequest fun r => r.bringUpToDate b f stamp)
  | readbacks (s : State) (b : Bank) (p values : Nat) (stamp : Stamp) (active : s.active? = some b) :
      Change i s (s.onRequest fun r => (r.checkCard p values).endBlocked r b.memory stamp)
  | unblock (s : State) (key : Nat) : Change i s (s.onRequest fun r => r.unblock key)
  | request (s : State) (r : RequestEngine) (same : s.request.samePlaces r) : Change i s { s with request := r }
  | standby (s : State) (b : Bank) (free : s.tablesBusy = false)
      (canonical : s.tables.bankA.memory.wf = true → s.tables.bankB.memory.wf = true → b.memory.wf = true) :
      Change i s (s.onTables fun t => t.setStandby b)
  | openCheck (s : State) (x : Taken) (duration : Nat) (free : s.tablesBusy = false) :
      Change i s { s with tables := s.tables.openCheck x duration }
  | checkRuns (s : State) : Change i s { s with tables := s.tables.advance }
  | completeCheck (s : State) (c : CheckContext) (open_ : s.tables.check = some c) : Change i s (s.completeCheck c)
  | pendSwitch (s : State) (switch : i = .switchTables) (free : s.tablesBusy = false) (passed : s.tables.standby.passed) :
      Change i s (s.onTables fun t => { t with switchPending := true })
  | switch (s : State) (taken : s.tables.switchPending = true
      ∨ i = .switchTables ∧ s.tablesBusy = false ∧ s.tables.standby.passed) : Change i s s.switchEffect
  | restart (s : State) (keep : Bool) (command : i = .restart ∨ i = .resetPin) : Change i s (s.restart keep)
  | powerOn (s : State) (straps : Byte) (outen link : Bool) (command : i = .powerOn straps outen link) :
      Change i s (s.powerOn straps outen link)

/-- `t` comes from `s` by small changes of command `i`. -/
def Reaches (i : Instr) : State → State → Prop := Relation.ReflTransGen (Change i)

variable {i : Instr}

theorem Reaches.refl (s : State) : Reaches i s s := Relation.ReflTransGen.refl

theorem Change.reaches {s t : State} (h : Change i s t) : Reaches i s t := Relation.ReflTransGen.single h

theorem Reaches.trans {s t u : State} (h : Reaches i s t) (h' : Reaches i t u) : Reaches i s u := Relation.ReflTransGen.trans h h'

theorem Reaches.change {s t u : State} (h : Reaches i s t) (h' : Change i t u) : Reaches i s u := h.trans h'.reaches

theorem Reaches.onLoop {s t : State} (h : Reaches i s t) (f : LoopController → LoopController)
    (good : (∃ frame, i = .loopInFrame frame) ∨ (t.loop.good → (f t.loop).good)) : Reaches i s (t.onLoop f) :=
  h.change (.loop t (f t.loop) good)

theorem Reaches.onRequest {s t : State} (h : Reaches i s t) (f : RequestEngine → RequestEngine)
    (same : t.request.samePlaces (f t.request)) : Reaches i s (t.onRequest f) :=
  h.change (.request t (f t.request) same)

theorem Reaches.onDesk {s t : State} (h : Reaches i s t) (f : DeskPort → DeskPort)
    (bounded : t.desk.receiveQueue.length ≤ 4 → (f t.desk).receiveQueue.length ≤ 4) : Reaches i s (t.onDesk f) :=
  h.change (.desk t (f t.desk) bounded)

/-- The induction over a chain, packaged: what every small change keeps, the chain keeps. -/
theorem Reaches.keeps {s t : State} (h : Reaches i s t) (P : State → Prop) (step : ∀ u v, Change i u v → P u → P v) (hs : P s) :
    P t := by
  induction h with
  | refl => exact hs
  | tail _ hc ih => exact step _ _ hc ih

/-! ### The period in use (R62, R64) -/

section
variable (f : FlasherMonitor) (mode : FlasherMode) (nominal readPeriod n : Nat)

@[simp] theorem FlasherMonitor.abandon_period : (f.abandon mode).period = f.period := by
  unfold FlasherMonitor.abandon
  split
  · rfl
  · rfl
  · split <;> rfl

@[simp] theorem FlasherMonitor.testStopped_period : (f.testStopped mode readPeriod).period = f.period := by
  unfold FlasherMonitor.testStopped
  split
  · simp
  · rfl

@[simp] theorem FlasherMonitor.countRead_period : f.countRead.period = f.period := by
  unfold FlasherMonitor.countRead
  split <;> rfl

@[simp] theorem FlasherMonitor.countCycle_period : (f.countCycle mode n).period = f.period := by
  unfold FlasherMonitor.countCycle
  split
  · rfl
  · dsimp only
    split <;> rfl

/-- A completed measurement is taken as the period in use only where it lies in the band (R62). -/
theorem FlasherMonitor.complete_period :
    (f.complete mode nominal readPeriod).period = f.period
      ∨ ∃ p, (f.complete mode nominal readPeriod).period = some p ∧ inBand nominal p := by
  simp only [FlasherMonitor.complete]
  split
  · rename_i h
    rw [Bool.and_eq_true, decide_eq_true_eq, decide_eq_true_eq] at h
    exact .inr ⟨_, rfl, h⟩
  · exact .inl rfl

theorem FlasherMonitor.cycleStep_period :
    (f.cycleStep mode nominal readPeriod n).period = f.period
      ∨ ∃ p, (f.cycleStep mode nominal readPeriod n).period = some p ∧ inBand nominal p := by
  unfold FlasherMonitor.cycleStep
  dsimp only
  split
  · simpa using (f.countCycle mode n).complete_period mode nominal readPeriod
  · exact .inl (by simp)

theorem FlasherMonitor.takeRead_period (before after : InputState) :
    (f.takeRead mode nominal readPeriod n before after).period = f.period
      ∨ ∃ p, (f.takeRead mode nominal readPeriod n before after).period = some p ∧ inBand nominal p := by
  unfold FlasherMonitor.takeRead
  split
  · exact .inl (by simp [FlasherMonitor.loseReference])
  · exact .inl rfl
  · exact .inl (by simp)
  · simpa using f.countRead.cycleStep_period mode nominal readPeriod n
  · exact .inl (by simp)

theorem FlasherMonitor.takeReport_period (b : Bank) (p : Nat) (before after : ContactFilter) :
    (f.takeReport b p before after).period = f.period
      ∨ ∃ q, (f.takeReport b p before after).period = some q ∧ inBand b.counts.nominal q := by
  unfold FlasherMonitor.takeReport
  split
  · exact .inl rfl
  · split
    · split
      · exact f.takeRead_period _ _ _ _ _ _
      · exact .inl rfl
    · exact .inl rfl

theorem FlasherMonitor.takeOutage_period (b : Bank) (p : Nat) (before : ContactFilter) : (f.takeOutage b p before).period = f.period := by
  unfold FlasherMonitor.takeOutage
  split
  · rfl
  · split
    · split
      · split
        · simp [FlasherMonitor.loseReference]
        · rfl
      · rfl
    · rfl

theorem FlasherMonitor.takeSettle_period (b : Bank) (k : Nat) (v : ContactValue) :
    (f.takeSettle b k v).period = f.period ∨ ∃ q, (f.takeSettle b k v).period = some q ∧ inBand b.counts.nominal q := by
  unfold FlasherMonitor.takeSettle
  split
  · exact .inl rfl
  · split
    · exact f.cycleStep_period _ _ _ _
    · exact .inl rfl

theorem FlasherMonitor.measure_period (unknown : Bool) : (f.measure mode unknown).period = f.period := by
  unfold FlasherMonitor.measure
  dsimp only
  split
  · simp
  · rfl

end

/-- New filter states of the inputs, and a flasher monitor whose period in use stays or comes from the active bank's band. -/
theorem reaches_inputs_flasher (s : State) (b : Bank) (xs : List (Nat × InputState)) (f : FlasherMonitor) (active : s.active? = some b)
    (period : f.period = s.flasher.period ∨ ∃ p, f.period = some p ∧ inBand b.counts.nominal p) :
    Reaches i s { s with filter := { s.filter with inputs := xs }, flasher := f } :=
  (Change.inputs s xs).reaches.change
    (.flasher { s with filter := { s.filter with inputs := xs } } f
      (period.imp_right fun ⟨p, hp, band⟩ => ⟨b, p, active, hp, band⟩))

/-! ### Events (R88, R89, R118) -/

section
variable {s : State} {e : Event}

theorem Reaches.setCondition (h : Reaches i s e.st) (c : Nat) (v : Bool) (stamp : Stamp) :
    Reaches i s (e.setCondition c v stamp).st := by
  unfold Event.setCondition
  split
  · exact h
  · exact h.change (.conditions _ _)

theorem Reaches.judgeAuthority (h : Reaches i s e.st) (stamp : Stamp) : Reaches i s (e.judgeAuthority stamp).st := by
  have judged : (if e.st.reasonSet.isEmpty then
        e.st.onRequest fun r => { r with authority := e.st.reasonSet.isEmpty, reasons := e.st.reasonSet }
      else (e.st.onRequest fun r => { r with authority := e.st.reasonSet.isEmpty, reasons := e.st.reasonSet }).onRequest fun r =>
        r.endSlots (fun _ => true) .abortedAuthority e.st.now (some e.st.reasonSet))
      = e.st.onRequest fun r => r.judged e.st.reasonSet e.st.now := by
    unfold RequestEngine.judged
    split <;> rfl
  have h' : Reaches i s (e.st.onRequest fun r => r.judged e.st.reasonSet e.st.now) := h.change (.judged _ _ _)
  unfold Event.judgeAuthority
  dsimp only
  split
  · exact h
  · rw [State.onRequest_now, judged]
    split
    · exact h'.change (.conditions _ _)
    · exact Reaches.setCondition (e := { e with
        st := e.st.onRequest fun r => r.judged e.st.reasonSet e.st.now, authorityStamp := some (e.latestAuthorityStamp stamp) }) h' _ _ _

theorem Reaches.judgeCards (h : Reaches i s e.st) (t : Stamp) : Reaches i s (e.judgeCards t).st := h.setCondition _ _ _
theorem Reaches.judgeFlasher (h : Reaches i s e.st) (t : Stamp) : Reaches i s (e.judgeFlasher t).st := h.setCondition _ _ _
theorem Reaches.judgeOutputs (h : Reaches i s e.st) (t : Stamp) : Reaches i s (e.judgeOutputs t).st := h.setCondition _ _ _

theorem Reaches.judgeAll (h : Reaches i s e.st) (t : Stamp) : Reaches i s (e.judgeAll t).st := by
  have judgedLoop : Reaches i s (e.judgeLoop t).st := h.setCondition _ _ _
  exact ((judgedLoop.judgeCards t).judgeFlasher t).judgeAuthority t

theorem Reaches.finishRound {t : State} (h : Reaches i s t) (round : List TermChange) : Reaches i s (t.finishRound round) := by
  have ran : Reaches i s (t.runRound round) := h.change (.round t round)
  unfold State.finishRound State.afterOverrun
  split
  · exact (Reaches.setCondition (e := Event.start (t.runRound round)) ran _ _ _).change (.round _ _)
  · exact ran

theorem Reaches.close (h : Reaches i s e.st) : Reaches i s e.close := by
  unfold Event.close
  split
  · exact h
  · exact h.finishRound _

theorem Reaches.foldl {α : Type} {f : Event → α → Event} (each : ∀ e x, Reaches i s e.st → Reaches i s (f e x).st) (xs : List α)
    (e : Event) (h : Reaches i s e.st) : Reaches i s (xs.foldl f e).st := by
  induction xs generalizing e with
  | nil => exact h
  | cons x xs ih => exact ih _ (each e x h)

/-! ### Batches (R39, R43, R70, R131) -/

theorem Reaches.handOn (h : Reaches i s e.st) (c : TermChange) : Reaches i s (e.handOn c).st := by
  show Reaches i s (e.st.takeProofNotice c.source c.value c.quality c.stamp)
  unfold State.takeProofNotice
  split
  · exact h
  · exact (h.change (.request e.st (e.st.request.noteProof c.source c.value c.quality) ⟨rfl, rfl, rfl, rfl⟩)).change (.ends _ _ _ _ _)

theorem Reaches.handOnPair (h : Reaches i s e.st) (m : Memory) (n : PairNotice) : Reaches i s (e.handOnPair m n).st := by
  unfold Event.handOnPair
  split
  · refine Reaches.judgeAuthority (e := (e.handOn n.termChange).onState fun s => s.onRequest fun r =>
      { r with changeover := some (n.state, n.quality) }) ?_ _
    exact (h.handOn _).change (.request _ _ ⟨rfl, rfl, rfl, rfl⟩)
  · exact h.handOn _

theorem Reaches.takeBatch (h : Reaches i s e.st) (b : Bank) (ns : List InputNotice) (read : Option (Nat × Stamp)) :
    Reaches i s (e.takeBatch b ns read).st := by
  have paired : Reaches i s (e.onState fun s => { s with pairs := (takePairs b e.st.filter e.st.pairs ns read).1 }).st :=
    h.change (.pairs _ _)
  have inputs := Reaches.foldl (f := fun e (n : InputNotice) => e.handOn n.termChange) (fun e n h => h.handOn _) ns _ paired
  have all := Reaches.foldl (f := Event.handOnPair b.memory) (fun e n h => h.handOnPair _ n)
    (takePairs b e.st.filter e.st.pairs ns read).2 _ inputs
  exact all.change (.outcomes _ _ (RequestEngine.inSlotOrder_outcomes_length _ e.st.request).le)

theorem Reaches.positionOutage (h : Reaches i s e.st) (b : Bank) (p : Nat) (t : Stamp) : Reaches i s (e.positionOutage b p t).st := by
  refine Reaches.takeBatch (e := e.onState fun s =>
    { s with filter := (e.st.filter.outage b.memory p t).1, flasher := e.st.flasher.takeOutage b p e.st.filter }) ?_ b _ _
  have inputs : Reaches i s { e.st with filter := (e.st.filter.outage b.memory p t).1 } := h.change (.inputs _ _)
  exact inputs.change (.flasher _ _ (.inl (e.st.flasher.takeOutage_period b p e.st.filter)))

theorem Reaches.outages (h : Reaches i s e.st) (t : Stamp) : Reaches i s (e.outages t).st := by
  unfold Event.outages
  split
  · exact h
  · refine Reaches.foldl (fun e p h => ?_) _ _ h
    split
    · exact h.positionOutage _ _ _
    · exact h

theorem Reaches.inputReport (h : Reaches i s e.st) (b : Bank) (p values : Nat) (low : Bool) (t : Stamp)
    (active : e.st.active? = some b) : Reaches i s (e.inputReport b p values low t).st := by
  refine Reaches.judgeFlasher (Reaches.takeBatch (h.trans ?_) b _ _) t
  exact reaches_inputs_flasher _ b _ _ active (FlasherMonitor.takeReport_period _ _ _ _ _)

theorem Reaches.checkReadbacks (h : Reaches i s e.st) (b : Bank) (p values : Nat) (t : Stamp) (active : e.st.active? = some b) :
    Reaches i s (e.checkReadbacks b.memory p values t).st := by
  refine Reaches.judgeOutputs (e := e.onState fun s => s.onRequest fun r => (r.checkCard p values).endBlocked r b.memory t) ?_ t
  exact h.change (.readbacks _ _ _ _ _ active)

/-- What follows an event's change of state: the outages and the judgements (R43, R67, R86, R87, R118). -/
theorem Reaches.settled (h : Reaches i s e.st) (t : Stamp) : Reaches i s ((e.outages t).judgeAll t).close :=
  ((h.outages t).judgeAll t).close

end

end Sys2Proof.Machine
end

section
/-! Every command is a chain of small changes (`exec_reaches`), and so is a step (`step_reaches`). -/

namespace Sys2Proof.Machine

variable {i : Instr}

/-! ### Sweeps (chapter 1) -/

theorem RequestEngine.carry_fold_samePlaces (on ks : List Nat) (r : RequestEngine) :
    r.samePlaces (ks.foldl (fun r k => r.carry k (on.contains k)) r) := by
  have frame := (RequestEngine.carry_fold_frame on ks r).symm
  refine ⟨?_, ?_, ?_, ?_⟩
  · exact (congrArg RequestEngine.authority frame).symm
  · exact (congrArg RequestEngine.slots frame).symm
  · exact (congrArg RequestEngine.outcomes frame).symm
  · exact (congrArg RequestEngine.blocked frame).symm

theorem Reaches.sweepSent {s t : State} (h : Reaches i s t) (b : Bank) (on : List Nat) : Reaches i s (t.sweepSent b on) := by
  have brought : Reaches i s (t.onRequest fun r =>
      r.bringUpToDate b (fun sl => ({ sl with count := sl.count + 1 }).updateSteps b) t.now) :=
    h.change (.bringUp _ _ _ _ fun _ => ⟨rfl, rfl⟩)
  exact brought.change (.request _ _ (RequestEngine.carry_fold_samePlaces on _ _))

theorem Reaches.sendSweep {s t : State} (h : Reaches i s t) : Reaches i s t.sendSweep := by
  cases hb : t.active? with
  | none => simpa [State.sendSweep, hb] using h
  | some b =>
    rw [t.sendSweep_active_eq b hb]
    refine Reaches.sweepSent (h.change (.loop t _ (.inr fun good => ?_))) b t.commandedOn
    exact t.sent_good b.memory b.memory.sweepPeriod _ good

theorem Reaches.loseSweep {s : State} {e : Event} (h : Reaches i s e.st) (b : Bank) (sw : Sweep) : Reaches i s (e.loseSweep b sw).st := by
  have lost : Reaches i s (e.onState fun s => s.onLoop fun l =>
      if 3 ≤ (l.loseSweep b.memory sw).lostCount then (l.loseSweep b.memory sw).enterDown else l.loseSweep b.memory sw).st := by
    refine h.change (.loop e.st _ (.inr fun good => ?_))
    dsimp only
    split
    · exact (good.loseSweep b.memory sw).enterDown
    · exact good.loseSweep b.memory sw
  exact (lost.outages sw.time).judgeAll sw.time

theorem Reaches.settleSweep {s : State} {e : Event} (h : Reaches i s e.st) (b : Bank) : Reaches i s (e.settleSweep b).st := by
  unfold Event.settleSweep
  split
  · exact h
  · exact h.loseSweep b _

theorem Reaches.applyResurvey {s : State} {e : Event} (h : Reaches i s e.st) : Reaches i s e.applyResurvey.st := by
  unfold Event.applyResurvey
  split
  · exact Reaches.judgeAll (e := e.onState fun s => s.onLoop LoopController.resurveyed)
      (h.change (.loop e.st _ (.inr LoopController.good.resurveyed))) e.st.now
  · exact h

/-- A pending switch takes effect at the end of an event that leaves it pending. -/
theorem Reaches.switchEffect {s : State} {e : Event} (h : Reaches i s e.st) (pending : e.st.tables.switchPending = true) :
    Reaches i s e.close.switchEffect :=
  h.close.change (.switch _ (.inl (by simpa using pending)))

theorem Reaches.applyAndSend {s : State} {e : Event} (h : Reaches i s e.st) : Reaches i s e.applyAndSend := by
  unfold Event.applyAndSend
  split
  · rename_i pending
    exact (Reaches.applyResurvey (e := Event.start e.close.switchEffect) (h.switchEffect pending)).close.sendSweep
  · exact h.applyResurvey.close.sendSweep

theorem sweepDue_reaches (s : State) (b : Bank) : Reaches i s (s.sweepDue b) := by
  have settled := Reaches.settleSweep (i := i) (e := Event.start s) (Reaches.refl s) b
  unfold State.sweepDue
  dsimp only
  split
  · split
    · rename_i pending
      exact settled.switchEffect pending
    · exact settled.close
  · exact settled.applyAndSend

theorem execSweepDue_reaches {s t : State} (h : execSweepDue s = .next t) : Reaches i s t := by
  unfold execSweepDue at h
  split at h
  · cases h
    exact sweepDue_reaches _ _
  · cases h
    exact .refl s

theorem execEnterDown_reaches {s t : State} (h : execEnterDown s = .next t) : Reaches i s t := by
  unfold execEnterDown at h
  split at h
  · cases h
    refine Reaches.settled (e := (Event.start s).onState fun s => s.onLoop LoopController.enterDown) ?_ s.now
    exact Change.reaches (.loop s _ (.inr LoopController.good.enterDown))
  · split at h
    · split at h
      · cases h
        exact sweepDue_reaches _ _
      · cases h
        exact .refl s
    · cases h
      exact .refl s

theorem execRetryWaitExpiry_reaches {s t : State} (h : execRetryWaitExpiry s = .next t) : Reaches i s t := by
  unfold execRetryWaitExpiry at h
  split at h
  · cases h
    exact Reaches.applyAndSend (e := (Event.start s).onState fun s => s.onLoop LoopController.enterSurvey)
      (Change.reaches (.loop s _ (.inr LoopController.good.enterSurvey)))
  · cases h
    exact .refl s

theorem execRestartSurveyDelay_reaches {s t : State} (h : execRestartSurveyDelay s = .next t) : Reaches i s t := by
  unfold execRestartSurveyDelay at h
  split at h
  · cases h
    exact Reaches.applyAndSend (e := (Event.start s).onState fun s => s.onLoop fun l => { l with restartDelay := none })
      (Change.reaches (.loop s _ (.inr id)))
  · cases h
    exact .refl s

/-! ### Returned frames (R7 to R17) -/

theorem State.active_of_tables {s t : State} (h : t.tables = s.tables) : t.active? = s.active? := by
  simp only [State.active?, h]

@[simp] theorem State.acceptReport_tables (s : State) (b : Bank) (sw : Sweep) (r : CardReport) :
    (s.acceptReport b sw r).tables = s.tables := by
  unfold State.acceptReport
  dsimp only
  rw [Event.close_tables, Event.judgeCards_tables]
  split
  · simp
  · split <;> simp

@[simp] theorem State.corruptRead_tables (s : State) (sw : Sweep) (p : Nat) : (s.corruptRead sw p).tables = s.tables := by
  unfold State.corruptRead
  dsimp only
  split <;> simp

@[simp] theorem FrameWalk.take_tables (b : Bank) (sw : Sweep) (w : FrameWalk) (r : CardReport) :
    (w.take b sw r).st.tables = w.st.tables := by
  unfold FrameWalk.take
  dsimp only
  split
  · simp
  · split
    · simp
    · split
      · simp
      · split <;> simp

section
variable {frame : List Byte} {s : State}

/-- Any change of the loop controller within a returned frame. -/
theorem Reaches.onFrameLoop {t : State} (h : Reaches (.loopInFrame frame) s t) (f : LoopController → LoopController) :
    Reaches (.loopInFrame frame) s (t.onLoop f) := h.onLoop f (.inl ⟨frame, rfl⟩)

theorem Reaches.acceptReport {t : State} (h : Reaches (.loopInFrame frame) s t) (b : Bank) (active : t.active? = some b) (sw : Sweep)
    (r : CardReport) : Reaches (.loopInFrame frame) s (t.acceptReport b sw r) := by
  have accepted : Reaches (.loopInFrame frame) s ((Event.start t).onState fun s =>
      s.onLoop fun l => l.modifyPosition r.position fun x => x.accept r.supplyLow).st :=
    h.onFrameLoop fun l => l.modifyPosition r.position fun x => x.accept r.supplyLow
  refine Reaches.close (Reaches.judgeCards ?_ sw.time)
  split
  · exact accepted.inputReport b _ _ _ _ active
  · split
    · exact accepted
    · exact accepted.checkReadbacks b _ _ _ active

theorem Reaches.corruptRead {t : State} (h : Reaches (.loopInFrame frame) s t) (sw : Sweep) (p : Nat) :
    Reaches (.loopInFrame frame) s (t.corruptRead sw p) := by
  have scored := h.onFrameLoop fun l => l.modifyPosition p fun x =>
    { x with score := x.score + 8, judged := if 64 ≤ x.score + 8 then .isolated else x.judged }
  unfold State.corruptRead
  dsimp only
  split
  · exact Reaches.settled (e := Event.start _) scored sw.time
  · exact scored

theorem Reaches.take {w : FrameWalk} (h : Reaches (.loopInFrame frame) s w.st) (b : Bank) (active : w.st.active? = some b) (sw : Sweep)
    (r : CardReport) : Reaches (.loopInFrame frame) s (w.take b sw r).st := by
  have sorted := h.onFrameLoop fun l => l.sortReport r
  unfold FrameWalk.take
  dsimp only
  split
  · exact sorted
  · split
    · exact sorted.corruptRead sw r.position
    · split
      · exact sorted
      · split
        · exact sorted.acceptReport b active sw r
        · exact sorted

theorem Reaches.takes (b : Bank) (sw : Sweep) (rs : List CardReport) (w : FrameWalk) (h : Reaches (.loopInFrame frame) s w.st)
    (active : w.st.active? = some b) : Reaches (.loopInFrame frame) s (rs.foldl (FrameWalk.take b sw) w).st := by
  induction rs generalizing w with
  | nil => exact h
  | cons r rs ih =>
    refine ih _ (h.take b active sw r) ?_
    rw [State.active_of_tables (w.take_tables b sw r), active]

theorem takeFrame_reaches (s : State) (b : Bank) (active : s.active? = some b) (sw : Sweep) :
    Reaches (.loopInFrame frame) s (s.takeFrame b sw frame) := by
  have returned := (Reaches.refl (i := .loopInFrame frame) s).onFrameLoop fun l => l.takeReturn sw
  unfold State.takeFrame
  split
  · have taken := Reaches.takes b sw (frameReports frame) ⟨_, [], [], false⟩ returned active
    exact Reaches.settled (e := (Event.start _).onState fun s => s.onLoop _) (taken.onFrameLoop _) sw.time
  · exact Reaches.settled (e := (Event.start _).onState fun s => s.onLoop _) (returned.onFrameLoop _) sw.time
  · exact .refl s
  · exact .refl s

theorem execLoopInFrame_reaches {t : State} (h : execLoopInFrame frame s = .next t) : Reaches (.loopInFrame frame) s t := by
  unfold execLoopInFrame at h
  split at h
  · split at h
    · cases h
      exact takeFrame_reaches s _ (by assumption) _
    · cases h
      exact .refl s
  · cases h
    exact .refl s

end

/-! ### Contacts, flasher, pairs (chapters 3 to 5) -/

section
variable {s t : State}

theorem execCardOutageUnknown_reaches {p : Nat} {stamp : Stamp} (h : execCardOutageUnknown p stamp s = .next t) : Reaches i s t := by
  unfold execCardOutageUnknown at h
  split at h
  · cases h
    exact .refl s
  · split at h
    · cases h
      exact (((Reaches.refl s).positionOutage (e := Event.start s) _ p stamp).judgeCards stamp).judgeFlasher stamp |>.close
    · cases h
      exact .refl s

theorem settleEvent_reaches (s : State) (b : Bank) (active : s.active? = some b) (k : Nat) (v : ContactValue) (stamp : Stamp) :
    Reaches i s (s.settleEvent b k v stamp) := by
  refine Reaches.close (Reaches.judgeFlasher (Reaches.takeBatch ?_ b _ none) stamp)
  exact reaches_inputs_flasher s b _ _ active (s.flasher.takeSettle_period b k v)

theorem execDebounceSettle_reaches {k : Nat} {stamp : Stamp} (h : execDebounceSettle k stamp s = .next t) : Reaches i s t := by
  unfold execDebounceSettle at h
  split at h
  · split at h
    · split at h
      · cases h
        exact settleEvent_reaches s _ (by assumption) _ _ _
      · cases h
        exact .refl s
    · cases h
      exact .refl s
  · cases h
    exact .refl s

theorem flasherEvent_reaches (s : State) (b : Bank) (f : FlasherMonitor) (stamp : Stamp) (active : s.active? = some b)
    (period : f.period = s.flasher.period ∨ ∃ p, f.period = some p ∧ inBand b.counts.nominal p) :
    Reaches i s (s.flasherEvent f stamp) := by
  refine Reaches.close (Reaches.judgeFlasher (e := (Event.start s).onState fun s => { s with flasher := f }) ?_ stamp)
  exact Change.reaches (.flasher s f (period.imp_right fun ⟨p, hp, band⟩ => ⟨b, p, active, hp, band⟩))

/-- The bank that a defined reference belongs to is the active one. -/
theorem active_of_reference {b : Bank} {e : MapEntry}
    (h : (s.active?.bind fun b => b.memory.referenceEntry?.map fun x => (b, x.2)) = some (b, e)) : s.active? = some b := by
  obtain ⟨b', active, h⟩ := Option.bind_eq_some_iff.mp h
  obtain ⟨x, -, h⟩ := Option.map_eq_some_iff.mp h
  cases h
  exact active

theorem execMeasurementComplete_reaches {stamp : Stamp} (h : execMeasurementComplete stamp s = .next t) : Reaches i s t := by
  unfold execMeasurementComplete at h
  split at h
  · cases h
    exact .refl s
  · rename_i reference
    split at h
    · cases h
      exact flasherEvent_reaches s _ _ _ (active_of_reference reference) (s.flasher.complete_period _ _ _)
    · cases h
      exact .refl s

theorem execFlasherStopped_reaches {stamp : Stamp} (h : execFlasherStopped stamp s = .next t) : Reaches i s t := by
  unfold execFlasherStopped at h
  split at h
  · cases h
    exact .refl s
  · rename_i reference
    cases h
    exact flasherEvent_reaches s _ _ _ (active_of_reference reference) (.inl (s.flasher.testStopped_period _ _))

theorem execTransitCountOut_reaches {f : Nat} {stamp : Stamp} (h : execTransitCountOut f stamp s = .next t) : Reaches i s t := by
  unfold execTransitCountOut at h
  split at h
  · split at h
    · cases h
      refine Reaches.close (Reaches.handOnPair ?_ _ _)
      exact Change.reaches (.pairs s _)
    · cases h
      exact .refl s
  · cases h
    exact .refl s

/-! ### The request engine's own commands (chapter 8) -/

theorem execOutenChange_reaches {high : Bool} (h : execOutenChange high s = .next t) : Reaches i s t := by
  cases h
  have pin : Reaches i s ((Event.start s).onState fun s => s.onRequest fun r => { r with outen := high }).st :=
    Change.reaches (.request s _ ⟨rfl, rfl, rfl, rfl⟩)
  exact ((pin.setCondition 4 high s.now).judgeAuthority s.now).close

theorem execStepTiming_reaches (h : execStepTiming s = .next t) : Reaches i s t := by
  unfold execStepTiming at h
  split at h
  · cases h
    exact .refl s
  · cases h
    exact Change.reaches (.bringUp s _ _ _ fun _ => ⟨rfl, rfl⟩)

theorem execProofTimeExpiry_reaches (h : execProofTimeExpiry s = .next t) : Reaches i s t := by
  unfold execProofTimeExpiry at h
  split at h
  · cases h
    exact .refl s
  · cases h
    exact Change.reaches (.ends s _ _ _ _)

theorem execWatchdogExpiry_reaches (h : execWatchdogExpiry s = .next t) : Reaches i s t := by
  unfold execWatchdogExpiry at h
  split at h
  · split at h
    · cases h
      have expired : Reaches i s ((Event.start s).onState fun s => s.onRequest fun r => { r with expired := true }).st :=
        Change.reaches (.request s _ ⟨rfl, rfl, rfl, rfl⟩)
      exact (expired.judgeAuthority s.now).close
    · cases h
      exact .refl s
  · cases h
    exact .refl s

end

/-! ### The desk's messages (R163 to R168) -/

section
variable {s t : State}

theorem Reaches.afterTaking {x : RxMessage} {rest : List RxMessage} {kind : Byte} (offered : s.offers x rest kind) :
    Reaches i s (s.afterTaking rest) := by
  refine Change.reaches (.desk s _ fun bounded => ?_)
  rw [offered.1, List.length_cons] at bounded
  exact Nat.le_of_succ_le bounded

theorem Reaches.answer (h : Reaches i s t) (x : Taken) (kind : Byte) (code : ReplyCode) (data : List Byte) :
    Reaches i s (t.answer x kind code data) := h.change (.desk _ _ id)

theorem Reaches.refuse (h : Reaches i s t) (x : Taken) (kind : Byte) (code : ReplyCode) : Reaches i s (t.refuse x kind code) :=
  h.answer x kind code []

/-- A management request goes as far as the rule that owns it. -/
theorem management_reaches {kind : Byte} {allowed : Rights → Bool} {form : List Byte → Bool} {rule : State → Taken → State}
    (owner : ∀ u x, Reaches i s u → Reaches i s (rule u x)) : Reaches i s (s.management kind allowed form rule) := by
  rcases s.management_cases kind allowed form rule with same | ⟨x, rest, offered, refused | refused | ruled⟩
  · rw [same]
    exact .refl s
  · rw [refused]
    exact (Reaches.afterTaking offered).answer x.taken _ _ _
  · rw [refused]
    exact (Reaches.afterTaking offered).answer x.taken _ _ _
  · rw [ruled]
    exact owner _ _ (Reaches.afterTaking offered)

theorem control_reaches {kind : Byte} {form : List Byte → Bool} {rule : State → Taken → State}
    (owner : ∀ u x, Reaches i s u → Reaches i s (rule u x)) : Reaches i s (s.control kind form rule) := by
  rcases s.control_cases kind form rule with same | ⟨x, rest, offered, dropped | ruled⟩
  · rw [same]
    exact .refl s
  · rw [dropped]
    exact (Reaches.afterTaking offered).onDesk _ id
  · rw [ruled]
    exact owner _ _ (Reaches.afterTaking offered)

theorem Reaches.unlessChecking (h : Reaches i s t) {x : Taken} {kind : Byte} {rule : State → Taken → State}
    (owner : Reaches i s (rule t x)) : Reaches i s (t.unlessChecking x kind rule) := by
  rcases t.unlessChecking_cases x kind rule with busy | ruled
  · rw [busy]
    exact h.refuse x kind .busy
  · rw [ruled]
    exact owner

theorem execDeskFrameReceived_reaches {frame : List Byte} (h : execDeskFrameReceived frame s = .next t) : Reaches i s t := by
  cases h
  refine (Reaches.refl s).onDesk _ fun bounded => ?_
  unfold DeskPort.receive DeskPort.offer
  split
  · exact bounded
  · split
    · exact bounded
    · split
      · exact bounded
      · split
        · exact bounded
        · split
          · simpa using by omega
          · exact bounded

theorem execFrameSend_reaches (h : execFrameSend s = .next t) : Reaches i s t := by
  cases h
  refine (Reaches.refl s).onDesk _ fun bounded => ?_
  unfold DeskPort.sendHead
  split
  · exact bounded
  · split <;> exact bounded

theorem execUnknownKind_reaches (h : execUnknownKind s = .next t) : Reaches i s t := by
  cases hq : s.desk.receiveQueue with
  | nil =>
    simp only [execUnknownKind, State.takeMessage, hq] at h
    cases h
    exact .refl s
  | cons m rest =>
    simp only [execUnknownKind, State.takeMessage, hq] at h
    by_cases known : (!knownKinds.contains m.kind) = true
    · rw [if_pos known] at h
      cases h
      exact (Reaches.afterTaking ⟨hq, rfl⟩).answer m.taken _ _ _
    · rw [if_neg known] at h
      cases h
      exact .refl s

/-! ### Management requests (chapter 10) -/

theorem execIdentify_reaches (h : execIdentify s = .next t) : Reaches i s t := by
  cases h
  exact management_reaches fun u x hu => hu.answer x _ _ _

theorem execReadStatus_reaches (h : execReadStatus s = .next t) : Reaches i s t := by
  cases h
  exact management_reaches fun u x hu => hu.answer x _ _ _

theorem execReadStatistics_reaches (h : execReadStatistics s = .next t) : Reaches i s t := by
  cases h
  exact management_reaches fun u x hu => hu.unlessChecking (hu.answer x _ _ _)

theorem LoopController.good.clearCounts {l : LoopController} (h : l.good) : LoopController.good
    { l with sweepsSent := 0, sweepsLost := 0, positions := l.positions.map fun r => { r with corrupt := 0 } } := by
  obtain ⟨records, phase, asks⟩ := h
  refine ⟨records.map (fun r => { r with corrupt := 0 }) fun r hr => hr, phase, asks.of_judged rfl rfl fun p hp isolated => ?_⟩
  rw [LoopController.position_eq_getElem _ p (by simpa [records.1] using hp)] at isolated
  rw [l.position_eq_getElem p (by simpa [records.1] using hp)]
  simpa using isolated

theorem Reaches.clearStatistics (h : Reaches i s t) : Reaches i s t.clearStatistics := by
  have loop : Reaches i s _ := h.change (.loop t
    { t.loop with sweepsSent := 0, sweepsLost := 0, positions := t.loop.positions.map fun r => { r with corrupt := 0 } }
    (.inr LoopController.good.clearCounts))
  have report := loop.change (.report _ { t.report with framesSent := 0, changesLost := 0, markersLost := 0 } ⟨rfl, rfl, rfl, rfl, rfl⟩)
  have request := report.change (.request _ { t.request with discarded := 0 } ⟨rfl, rfl, rfl, rfl⟩)
  exact request.change (.desk _ { t.desk with fcsErrors := 0, malformed := 0, overflows := 0, controlDropped := 0, notSent := 0 } id)

theorem execClearStatistics_reaches (h : execClearStatistics s = .next t) : Reaches i s t := by
  cases h
  exact management_reaches fun u x hu => hu.unlessChecking (hu.clearStatistics.answer x _ _ _)

theorem execRestart_reaches (h : execRestart s = .next t) : Reaches .restart s t := by
  cases h
  exact management_reaches fun u x hu => (hu.answer x _ _ _).change (.restart _ _ (.inl rfl))

theorem execResetPin_reaches (h : execResetPin s = .next t) : Reaches .resetPin s t := by
  cases h
  have cleared : Reaches .resetPin s { s with report := { s.report with timeBase := 0, timeValid := false } } :=
    Change.reaches (.report s _ ⟨rfl, rfl, rfl, rfl, rfl⟩)
  exact cleared.change (.restart _ false (.inr rfl))

theorem execReadmitCard_reaches (h : execReadmitCard s = .next t) : Reaches i s t := by
  cases h
  refine management_reaches fun u x hu => hu.unlessChecking ?_
  dsimp only
  split
  · exact hu.refuse x _ _
  · split
    · exact hu.refuse x _ _
    · split
      · exact hu.refuse x _ _
      · exact (hu.onLoop _ (.inr id)).answer x _ _ _

theorem execResurvey_reaches (h : execResurvey s = .next t) : Reaches i s t := by
  cases h
  refine management_reaches fun u x hu => hu.unlessChecking ?_
  split
  · exact hu.refuse x _ _
  · exact (hu.onLoop _ (.inr id)).answer x _ _ _

theorem Reaches.presentForced (h : Reaches i s t) (b : Bank) (k : Nat) (before : Option Settled × Quality) :
    Reaches i s (t.presentForced b k before) := by
  unfold State.presentForced
  dsimp only
  split
  · exact h
  · exact (Reaches.takeBatch (e := Event.start t) h b _ none).judgeFlasher _ |>.close

theorem execForceInput_reaches (h : execForceInput s = .next t) : Reaches i s t := by
  cases h
  refine management_reaches fun u x hu => hu.unlessChecking ?_
  dsimp only
  split
  · exact hu.refuse x _ _
  · rename_i b active
    split
    · exact hu.refuse x _ _
    · split
      · exact hu.refuse x _ _
      · rename_i room
        refine Reaches.answer (Reaches.presentForced (hu.change (.force u _ _ (by simp [active]) ?_)) b _ _) x _ _ _
        simpa [Bool.and_eq_true, Classical.or_iff_not_imp_left] using room

theorem execReleaseInput_reaches (h : execReleaseInput s = .next t) : Reaches i s t := by
  cases h
  refine management_reaches fun u x hu => hu.unlessChecking ?_
  dsimp only
  split
  · exact hu.refuse x _ _
  · split
    · exact hu.refuse x _ _
    · split
      · exact hu.refuse x _ _
      · exact (Reaches.presentForced (hu.change (.release u _ _)) _ _ _).answer x _ _ _

theorem execMeasureFlasher_reaches (h : execMeasureFlasher s = .next t) : Reaches i s t := by
  cases h
  refine management_reaches fun u x hu => hu.unlessChecking ?_
  split
  · exact hu.refuse x _ _
  · split
    · exact hu.refuse x _ _
    · split
      · exact hu.refuse x _ _
      · exact (hu.change (.flasher u _ (.inl (u.flasher.measure_period _ _)))).answer x _ _ _

theorem execClearOutputBlock_reaches (h : execClearOutputBlock s = .next t) : Reaches i s t := by
  cases h
  refine management_reaches fun u x hu => hu.unlessChecking ?_
  dsimp only
  split
  · exact hu.refuse x _ _
  · split
    · exact hu.refuse x _ _
    · split
      · exact hu.refuse x _ _
      · refine Reaches.answer (Reaches.close (Reaches.judgeOutputs ?_ u.now)) x _ _ _
        exact hu.change (.unblock u _)

theorem Reaches.setTime (h : Reaches i s t) (new : Stamp) : Reaches i s (t.setTime new) := by
  have loaded := h.change (.report t { t.report with timeBase := new, timeValid := true } ⟨rfl, rfl, rfl, rfl, rfl⟩)
  have marked := loaded.change (.marker _ (.timeSet new t.report.timeBase))
  unfold State.setTime
  dsimp only
  split
  · exact marked
  · exact (Reaches.setCondition (e := Event.start _) marked 6 true new).close

theorem execSetTime_reaches (h : execSetTime s = .next t) : Reaches i s t := by
  cases h
  exact management_reaches fun u x hu => hu.unlessChecking ((hu.setTime _).answer x _ _ _)

/-! ### Control messages (chapter 8) -/

theorem execKeepalive_reaches (h : execKeepalive s = .next t) : Reaches i s t := by
  cases h
  refine control_reaches fun u x hu => ?_
  split
  · exact hu
  · refine Reaches.close (Reaches.judgeAuthority ?_ u.now)
    refine hu.change (.request u _ ?_)
    unfold RequestEngine.takeKeepalive
    split <;> exact ⟨rfl, rfl, rfl, rfl⟩

theorem execOperate_reaches (h : execOperate s = .next t) : Reaches .operate s t := by
  cases h
  refine control_reaches fun u x hu => ?_
  split
  · exact hu
  · rename_i b active
    unfold State.takeOperate
    split
    · exact hu.change (.request u _ ⟨rfl, rfl, rfl, rfl⟩)
    · rename_i free
      have free : u.request.freePlace = true := by simpa using free
      split
      · exact hu.change (.accept u b _ _ rfl active free (by assumption))
      · exact hu.change (.place u _ free)

theorem execCancel_reaches (h : execCancel s = .next t) : Reaches i s t := by
  cases h
  refine control_reaches fun u x hu => ?_
  unfold State.takeCancel
  split
  · exact hu.change (.ends u _ _ _ _)
  · split
    · exact hu.change (.place u _ (by assumption))
    · exact hu.change (.request u _ ⟨rfl, rfl, rfl, rfl⟩)

/-! ### Frames to the desk (R110) -/

theorem takeFrameParts_reaches (s : State) (b : Bank) : Reaches i s (s.takeFrameParts b) := by
  have emptied : Reaches i s (s.onRequest fun r => { r with outcomes := [] }) := Change.reaches (.outcomes s [] (Nat.zero_le _))
  have moved := emptied.change (.transfer _ b.memory.queueLimit)
  unfold State.takeFrameParts
  dsimp only
  split
  · exact moved
  · exact (Reaches.setCondition (e := Event.start _) moved 3 true s.now).close

theorem emitFrame_reaches (s : State) (b : Bank) : Reaches i s (s.emitFrame b) := by
  have parts := takeFrameParts_reaches (i := i) s b
  have sent (f : TxFrame) : Reaches i s ((s.takeFrameParts b).send f) := parts.onDesk _ id
  exact (sent _).change (.report _ _ ⟨rfl, rfl, rfl, rfl, rfl⟩)

theorem execReportPeriodExpiry_reaches (h : execReportPeriodExpiry s = .next t) : Reaches i s t := by
  unfold execReportPeriodExpiry at h
  split at h
  · cases h
    exact emitFrame_reaches _ _
  · cases h
    exact .refl s

/-! ### Table sets (chapter 9) -/

theorem execCheckCompletion_reaches (h : execCheckCompletion s = .next t) : Reaches i s t := by
  unfold execCheckCompletion at h
  split at h
  · cases h
    exact Change.reaches (.completeCheck s _ (by assumption))
  · cases h
    exact .refl s

theorem TableStore.standby_canonical (t : TableStore) (ha : t.bankA.memory.wf = true) (hb : t.bankB.memory.wf = true) :
    t.standby.memory.wf = true := by
  unfold TableStore.standby TableStore.bank
  split
  · exact ha
  · exact hb

theorem State.active_canonical {b : Bank} (active : s.active? = some b) (ha : s.tables.bankA.memory.wf = true)
    (hb : s.tables.bankB.memory.wf = true) : b.memory.wf = true := by
  obtain ⟨n, -, rfl⟩ := Option.map_eq_some_iff.mp active
  cases n
  · exact ha
  · exact hb

theorem execWriteTable_reaches (h : execWriteTable s = .next t) : Reaches i s t := by
  cases h
  refine management_reaches fun u x hu => ?_
  dsimp only
  split
  · exact hu.refuse x _ _
  · split
    · exact hu.refuse x _ _
    · split
      · exact hu.refuse x _ _
      · split
        · exact hu.refuse x _ _
        · refine Reaches.answer (hu.change (.standby u _ (by simpa using ‹¬u.tablesBusy = true›) fun ha hb => ?_)) x _ _ _
          exact Bank.wf_load _ (u.tables.standby_canonical ha hb) _ _ _

theorem execReadTable_reaches (h : execReadTable s = .next t) : Reaches i s t := by
  cases h
  refine management_reaches fun u x hu => ?_
  dsimp only
  split
  · split
    · exact hu.refuse x _ _
    · split
      · exact hu.refuse x _ _
      · split
        · exact hu.refuse x _ _
        · exact hu.answer x _ _ _
  · exact hu.refuse x _ _

theorem execCopyActive_reaches (h : execCopyActive s = .next t) : Reaches i s t := by
  cases h
  refine management_reaches fun u x hu => ?_
  split
  · exact hu.refuse x _ _
  · split
    · exact hu.refuse x _ _
    · exact (hu.change (.standby u _ (by simpa using ‹¬u.tablesBusy = true›) (State.active_canonical ‹_›))).answer x _ _ _

theorem execClearStandby_reaches (h : execClearStandby s = .next t) : Reaches i s t := by
  cases h
  refine management_reaches fun u x hu => ?_
  split
  · exact hu.refuse x _ _
  · exact (hu.change (.standby u _ (by simpa using ‹¬u.tablesBusy = true›) fun _ _ => rfl)).answer x _ _ _

theorem execCheckTables_reaches (h : execCheckTables s = .next t) : Reaches i s t := by
  cases h
  refine management_reaches fun u x hu => ?_
  dsimp only
  split
  · exact hu.refuse x _ _
  · exact (hu.change (.openCheck u x _ (by simpa using ‹¬u.tablesBusy = true›))).change (.clock _ _)

theorem execSwitchTables_reaches (h : execSwitchTables s = .next t) : Reaches .switchTables s t := by
  cases h
  refine management_reaches fun u x hu => ?_
  split
  · exact hu.refuse x _ _
  · rename_i free
    split
    · rename_i r counts good
      split
      · exact hu.refuse x _ _
      · have answered := hu.answer x 0x15 .ok []
        have free : u.tablesBusy = false := by simpa using free
        have passed : (u.answer x 0x15 .ok []).tables.standby.passed := ⟨r, counts, good⟩
        have switched := answered.change (.switch _ (.inr ⟨rfl, free, passed⟩))
        unfold State.acceptSwitch
        split
        · exact switched.sendSweep
        · exact switched
        · exact answered.change (.pendSwitch _ rfl free passed)
    · exact hu.refuse x _ _

/-! ### Every command, every step -/

end

/-- What a command can do: a chain of small changes. -/
theorem exec_reaches {s t : State} (h : exec i s = .next t) : Reaches i s t := by
  cases i with
  | powerOn straps outen link => cases h; exact Change.reaches (.powerOn s straps outen link rfl)
  | resetPin => exact execResetPin_reaches h
  | outenChange high => exact execOutenChange_reaches h
  | linkStatusChange up => cases h; exact Change.reaches (.desk s _ id)
  | sweepDue => exact execSweepDue_reaches h
  | enterDown => exact execEnterDown_reaches h
  | retryWaitExpiry => exact execRetryWaitExpiry_reaches h
  | restartSurveyDelay => exact execRestartSurveyDelay_reaches h
  | loopInFrame frame => exact execLoopInFrame_reaches h
  | cardOutageUnknown p stamp => exact execCardOutageUnknown_reaches h
  | debounceSettle k stamp => exact execDebounceSettle_reaches h
  | measurementComplete stamp => exact execMeasurementComplete_reaches h
  | flasherStopped stamp => exact execFlasherStopped_reaches h
  | transitCountOut f stamp => exact execTransitCountOut_reaches h
  | stepTiming => exact execStepTiming_reaches h
  | proofTimeExpiry => exact execProofTimeExpiry_reaches h
  | watchdogExpiry => exact execWatchdogExpiry_reaches h
  | reportPeriodExpiry => exact execReportPeriodExpiry_reaches h
  | checkCompletion => exact execCheckCompletion_reaches h
  | deskFrameReceived frame => exact execDeskFrameReceived_reaches h
  | frameSend => exact execFrameSend_reaches h
  | unknownKind => exact execUnknownKind_reaches h
  | identify => exact execIdentify_reaches h
  | readStatus => exact execReadStatus_reaches h
  | readStatistics => exact execReadStatistics_reaches h
  | clearStatistics => exact execClearStatistics_reaches h
  | restart => exact execRestart_reaches h
  | writeTable => exact execWriteTable_reaches h
  | readTable => exact execReadTable_reaches h
  | copyActive => exact execCopyActive_reaches h
  | clearStandby => exact execClearStandby_reaches h
  | checkTables => exact execCheckTables_reaches h
  | switchTables => exact execSwitchTables_reaches h
  | setTime => exact execSetTime_reaches h
  | forceInput => exact execForceInput_reaches h
  | releaseInput => exact execReleaseInput_reaches h
  | readmitCard => exact execReadmitCard_reaches h
  | resurvey => exact execResurvey_reaches h
  | measureFlasher => exact execMeasureFlasher_reaches h
  | clearOutputBlock => exact execClearOutputBlock_reaches h
  | keepalive => exact execKeepalive_reaches h
  | operate => exact execOperate_reaches h
  | cancel => exact execCancel_reaches h

/-- One millisecond is a chain of small changes of no command in particular (log entry 4). -/
theorem tick_reaches (s : State) : Reaches i s s.tick := by
  have loop : Reaches i s _ := Change.reaches (.loop s s.loop.advance (.inr id))
  have report := loop.change (.report _ s.report.advance ⟨rfl, rfl, rfl, rfl, rfl⟩)
  have check := report.change (.checkRuns _)
  have clock := check.change (.clock _ { s.clock with own := s.clock.own + 1 })
  exact clock.change (.pending _ _)

/-- What a step can do: a chain of small changes of the command at the front of the queue, or of a millisecond. -/
theorem step_reaches {s t : State} (h : step s = .next t) : ∃ i, Reaches i s t := by
  unfold step at h
  split at h
  · cases h
    exact ⟨.sweepDue, tick_reaches s⟩
  · rename_i c rest _
    exact ⟨c, (Change.reaches (.pending s rest)).trans (exec_reaches h)⟩

end Sys2Proof.Machine
end

section
/-! What a table switch and a restart leave in each block, field by field (R158, R172). -/

namespace Sys2Proof.Machine

/-! ### The switch effect (R158) -/

section
variable (s : State)

@[simp] theorem State.settleConditions_loop : s.settleConditions.loop = s.loop := rfl
@[simp] theorem State.settleConditions_filter : s.settleConditions.filter = s.filter := rfl
@[simp] theorem State.settleConditions_flasher : s.settleConditions.flasher = s.flasher := rfl
@[simp] theorem State.settleConditions_pairs : s.settleConditions.pairs = s.pairs := rfl
@[simp] theorem State.settleConditions_report : s.settleConditions.report = s.report := rfl
@[simp] theorem State.settleConditions_request : s.settleConditions.request = s.request := rfl
@[simp] theorem State.settleConditions_tables : s.settleConditions.tables = s.tables := rfl
@[simp] theorem State.settleConditions_desk : s.settleConditions.desk = s.desk := rfl
@[simp] theorem State.settleConditions_clock : s.settleConditions.clock = s.clock := rfl
@[simp] theorem State.settleConditions_pending : s.settleConditions.pending = s.pending := rfl

/-- The part at the switch effect before the image is built anew: the blocks in the order of R158, and the conditions as their owners
leave them. -/
def State.switched : State :=
  let s1 := { s with
    tables := s.tables.takeSwitch,
    report := s.report.offerMarker (.tableSwitch s.now (s.tables.standby.crc?.getD 0)),
    loop := s.loop.takeSwitch (s.active?.map Bank.memory) s.tables.standby.memory,
    filter := ContactFilter.startOn s.tables.standby.memory,
    flasher := FlasherMonitor.startOn s.tables.standby,
    pairs := startPairs s.tables.standby.memory s.now,
    request := s.request.takeSwitch (s.active?.map Bank.memory) s.tables.standby s.clock.own s.now }
  let s2 := s1.takeReasons
  ({ s2 with report := s2.report.takeSwitch (s.active?.map Bank.memory).isNone s.tables.standby.memory }).settleConditions

theorem State.switchEffect_eq : s.switchEffect = s.switched.resetImage s.tables.standby s.now fun _ => .tableSwitch := rfl

@[simp] theorem State.switchEffect_loop :
    s.switchEffect.loop = s.loop.takeSwitch (s.active?.map Bank.memory) s.tables.standby.memory := by
  simp [s.switchEffect_eq, State.switched]
@[simp] theorem State.switchEffect_filter : s.switchEffect.filter = ContactFilter.startOn s.tables.standby.memory := by
  simp [s.switchEffect_eq, State.switched]
@[simp] theorem State.switchEffect_flasher : s.switchEffect.flasher = FlasherMonitor.startOn s.tables.standby := by
  simp [s.switchEffect_eq, State.switched]
@[simp] theorem State.switchEffect_pairs : s.switchEffect.pairs = startPairs s.tables.standby.memory s.now := by
  simp [s.switchEffect_eq, State.switched]
@[simp] theorem State.switchEffect_tables : s.switchEffect.tables = s.tables.takeSwitch := by
  simp [s.switchEffect_eq, State.switched]
@[simp] theorem State.switchEffect_desk : s.switchEffect.desk = s.desk := by
  simp [s.switchEffect_eq, State.switched]
@[simp] theorem State.switchEffect_clock : s.switchEffect.clock = s.clock := by
  simp [s.switchEffect_eq, State.switched]
@[simp] theorem State.switchEffect_pending : s.switchEffect.pending = s.pending := by
  simp [s.switchEffect_eq, State.switched]

/-- The selection moves to the standby, so the standby is the bank that is active after the switch effect (R158). -/
theorem State.switchEffect_active : s.switchEffect.active? = some s.tables.standby := by
  simp only [State.active?, State.switchEffect_tables, TableStore.takeSwitch, Option.map_some]
  rfl

/-- The request engine after the switch effect: as R137 and R138 have it, with authority as the conditions then stand. -/
theorem State.switchEffect_request :
    ∃ reasons, s.switchEffect.request =
      { s.request.takeSwitch (s.active?.map Bank.memory) s.tables.standby s.clock.own s.now with
        reasons := reasons, authority := reasons.isEmpty } := by
  refine ⟨s.switched.request.reasons, ?_⟩
  rw [s.switchEffect_eq, State.resetImage_request]
  rfl

theorem RequestEngine.keepaliveAtSwitch_slots (r : RequestEngine) (stays : Bool) (w own : Nat) :
    (r.keepaliveAtSwitch stays w own).slots = r.slots ∧ (r.keepaliveAtSwitch stays w own).outcomes = r.outcomes := by
  unfold RequestEngine.keepaliveAtSwitch
  split <;> exact ⟨rfl, rfl⟩

/-- Every slot has ended after the switch effect, its record on the outcome list (R137). -/
theorem State.switchEffect_slots :
    s.switchEffect.request.slots = (s.request.endSlots (fun _ => true) .abortedTableSwitch s.now none).slots
      ∧ s.switchEffect.request.outcomes = (s.request.endSlots (fun _ => true) .abortedTableSwitch s.now none).outcomes := by
  obtain ⟨reasons, hr⟩ := s.switchEffect_request
  rw [hr]
  exact RequestEngine.keepaliveAtSwitch_slots _ _ _ _

theorem State.switchEffect_occupied : s.switchEffect.request.occupied = [] := by
  simp only [RequestEngine.occupied, s.switchEffect_slots.1]
  simpa [RequestEngine.occupied] using s.request.endSlots_occupied (fun _ => true) .abortedTableSwitch s.now none

end

/-! ### The restart (R172) -/

section
variable (s : State) (keep : Bool)

/-- A restart is one on the active bank, with keep-tables, or one that leaves no bank active. -/
theorem State.restart_cases :
    (∃ b, keep = true ∧ s.active? = some b ∧ s.restart keep = s.restartOn b)
      ∨ ((keep = false ∨ s.active? = none) ∧ s.restart keep = s.restartIdle keep) := by
  cases keep with
  | false => exact .inr ⟨.inl rfl, rfl⟩
  | true =>
    cases hb : s.active? with
    | none => exact .inr ⟨.inr rfl, by simp [State.restart, hb]⟩
    | some b => exact .inl ⟨b, rfl, rfl, by simp [State.restart, hb]⟩

@[simp] theorem State.restart_desk : (s.restart keep).desk = s.desk.restart := by
  rcases s.restart_cases keep with ⟨b, -, -, h⟩ | ⟨-, h⟩ <;> rw [h]
  · simp [State.restartOn]
  · rfl
@[simp] theorem State.restart_tables : (s.restart keep).tables = s.tables.restart keep := by
  rcases s.restart_cases keep with ⟨b, rfl, -, h⟩ | ⟨-, h⟩ <;> rw [h]
  · simp [State.restartOn]
  · rfl
@[simp] theorem State.restart_clock : (s.restart keep).clock = s.clock := by
  rcases s.restart_cases keep with ⟨b, -, -, h⟩ | ⟨-, h⟩ <;> rw [h]
  · simp [State.restartOn]
  · rfl
@[simp] theorem State.restart_pending : (s.restart keep).pending = s.pending := by
  rcases s.restart_cases keep with ⟨b, -, -, h⟩ | ⟨-, h⟩ <;> rw [h]
  · simp [State.restartOn]
  · rfl

theorem State.restart_loop : ∃ survey, (s.restart keep).loop = s.loop.restart survey := by
  rcases s.restart_cases keep with ⟨b, -, -, h⟩ | ⟨-, h⟩ <;> rw [h]
  · exact ⟨some b.memory.sweepPeriod, by simp [State.restartOn]⟩
  · exact ⟨none, rfl⟩

/-- No input is forced after a restart (R52). -/
theorem State.restart_forced : (s.restart keep).filter.forced = [] := by
  rcases s.restart_cases keep with ⟨b, -, -, h⟩ | ⟨-, h⟩ <;> rw [h]
  · simp [State.restartOn, ContactFilter.startOn]
  · rfl

/-- No request is left after a restart, and no output is blocked (R139). -/
theorem State.restart_request :
    (s.restart keep).request.slots = List.replicate 8 none ∧ (s.restart keep).request.outcomes = []
      ∧ (s.restart keep).request.blocked = [] := by
  rcases s.restart_cases keep with ⟨b, -, -, h⟩ | ⟨-, h⟩ <;> rw [h]
  · simp [State.restartOn, RequestEngine.restart, RequestEngine.reset]
  · exact ⟨rfl, rfl, rfl⟩

theorem State.restart_occupied : (s.restart keep).request.occupied = [] := by
  simp only [RequestEngine.occupied, (s.restart_request keep).1]
  rfl

/-- A restart takes no image away. -/
theorem Bank.abandonCheck_memory (b : Bank) : b.abandonCheck.memory = b.memory := by
  unfold Bank.abandonCheck
  split <;> rfl

/-- A bank that has passed its check is not in CHECKING. -/
theorem Bank.passed.abandonCheck {b : Bank} (h : b.passed) : b.abandonCheck = b := by
  obtain ⟨r, counts, h⟩ := h
  simp [Bank.abandonCheck, h]

theorem TableStore.restart_bank (t : TableStore) (n : BankName) : (t.restart true).bank n = (t.bank n).abandonCheck := by
  cases n <;> rfl

/-- With keep-tables the bank that was active stays active (R160). -/
theorem State.restart_active_kept {s : State} {b : Bank} (active : s.active? = some b) : (s.restart true).active? = some b.abandonCheck := by
  obtain ⟨n, selected, rfl⟩ := Option.map_eq_some_iff.mp active
  have kept : (s.tables.restart true).selection = some n := selected
  simp only [State.active?, State.restart_tables, kept, Option.map_some, TableStore.restart_bank]

/-- A restart that leaves no bank active. -/
theorem State.restart_active_none {s : State} {keep : Bool} (idle : keep = false ∨ s.active? = none) :
    (s.restart keep).tables.selection = none ∧ (s.restart keep).active? = none := by
  have selection : (s.restart keep).tables.selection = none := by
    rw [State.restart_tables]
    cases keep with
    | false => rfl
    | true => exact s.active_eq_none_iff.mp (by simpa using idle)
  exact ⟨selection, (s.restart keep).active_eq_none_iff.mpr selection⟩

end

end Sys2Proof.Machine
end

section
/-! The queues, the forced list and the position records (R11, R47, R104, R162): each small change keeps them. -/

namespace Sys2Proof.Machine

variable {i : Instr}

/-! ### What two of the small changes leave alone -/

section
variable (s : State) (c : CheckContext) (b : Bank) (tag : Word16) (q : Nat)

@[simp] theorem State.completeCheck_loop : (s.completeCheck c).loop = s.loop := by
  unfold State.completeCheck; simp only [State.send_loop]
@[simp] theorem State.completeCheck_filter : (s.completeCheck c).filter = s.filter := by
  unfold State.completeCheck; simp only [State.send_filter]
@[simp] theorem State.completeCheck_flasher : (s.completeCheck c).flasher = s.flasher := by
  unfold State.completeCheck; simp only [State.send_flasher]
@[simp] theorem State.completeCheck_report : (s.completeCheck c).report = s.report := by
  unfold State.completeCheck; simp only [State.send_report]
@[simp] theorem State.completeCheck_request : (s.completeCheck c).request = s.request := by
  unfold State.completeCheck; simp only [State.send_request]
@[simp] theorem State.completeCheck_evaluator : (s.completeCheck c).evaluator = s.evaluator := by
  unfold State.completeCheck; simp only [State.send_evaluator]
@[simp] theorem State.completeCheck_receiveQueue : (s.completeCheck c).desk.receiveQueue = s.desk.receiveQueue := by
  unfold State.completeCheck State.send; simp only [State.onDesk_desk]
@[simp] theorem State.completeCheck_tables :
    (s.completeCheck c).tables = { s.tables.setBank c.bank (s.tables.bank c.bank).checked with check := none } := by
  unfold State.completeCheck; simp only [State.send_tables]

/-- An accepted OPERATE changes the request engine alone. -/
theorem State.acceptOperate_eq : s.acceptOperate b tag q = { s with request := (s.acceptOperate b tag q).request } := by
  unfold State.acceptOperate
  dsimp only
  split <;> rfl

@[simp] theorem State.acceptOperate_loop : (s.acceptOperate b tag q).loop = s.loop := by rw [State.acceptOperate_eq]
@[simp] theorem State.acceptOperate_filter : (s.acceptOperate b tag q).filter = s.filter := by rw [State.acceptOperate_eq]
@[simp] theorem State.acceptOperate_flasher : (s.acceptOperate b tag q).flasher = s.flasher := by rw [State.acceptOperate_eq]
@[simp] theorem State.acceptOperate_report : (s.acceptOperate b tag q).report = s.report := by rw [State.acceptOperate_eq]
@[simp] theorem State.acceptOperate_evaluator : (s.acceptOperate b tag q).evaluator = s.evaluator := by rw [State.acceptOperate_eq]
@[simp] theorem State.acceptOperate_desk : (s.acceptOperate b tag q).desk = s.desk := by rw [State.acceptOperate_eq]
@[simp] theorem State.acceptOperate_tables : (s.acceptOperate b tag q).tables = s.tables := by rw [State.acceptOperate_eq]

end

/-- No table of bank `n` is chosen by the completion of a check (R154). -/
@[simp] theorem TableStore.setBank_selection (t : TableStore) (n : BankName) (b : Bank) : (t.setBank n b).selection = t.selection := by
  cases n <;> rfl

/-! ### The report queue (R104) -/

/-- The bound of the report queue; in NORMAL nothing is lost (R104). -/
def ReportUnit.good (r : ReportUnit) : Prop :=
  r.queue.length ≤ 512 ∧ (r.queueState = .normal → r.lostCount = 0 ∧ r.firstLost = none ∧ r.lastLost = none)

theorem State.reportQueueGood_iff (s : State) : s.reportQueueGood ↔ s.report.good := Iff.rfl

section
variable {r : ReportUnit}

theorem ReportUnit.good.of_sameQueue {u : ReportUnit} (h : r.good) (same : r.sameQueue u) : u.good := by
  obtain ⟨queue, state, lost, first, last⟩ := same
  simpa only [ReportUnit.good, queue, state, lost, first, last] using h

theorem ReportUnit.good.offerMarker (h : r.good) (m : Record) : (r.offerMarker m).good := by
  obtain ⟨bounded, nothingLost⟩ := h
  by_cases room : r.queue.length < 512
  · rw [r.offerMarker_of_room m room]
    exact ⟨by simpa using room, nothingLost⟩
  · rw [r.offerMarker_of_no_room m (by omega)]
    exact ⟨bounded, nothingLost⟩

theorem ReportUnit.good.takeChange (h : r.good) (limit : Nat) (m : Record) (t : Stamp) : (r.takeChange limit m t).good := by
  obtain ⟨bounded, nothingLost⟩ := h
  unfold ReportUnit.takeChange
  split
  · split
    · rename_i room
      exact ⟨by simpa using room.2, nothingLost⟩
    · exact ⟨bounded, nofun⟩
  · rename_i overrun
    exact ⟨bounded, fun normal => by simp [overrun] at normal⟩

theorem ReportUnit.good.takeChanges (h : r.good) (limit : Nat) (ms : List Record) : (r.takeChanges limit ms).good := by
  unfold ReportUnit.takeChanges
  induction ms generalizing r with
  | nil => exact h
  | cons m ms ih => exact ih (h.takeChange limit m m.stamp)

theorem ReportUnit.good.transfer (h : r.good) : r.transfer.good := by
  obtain ⟨bounded, nothingLost⟩ := h
  exact ⟨by simp only [ReportUnit.transfer, List.length_drop]; omega, nothingLost⟩

theorem ReportUnit.good.returnToNormal (h : r.good) (limit : Nat) : (r.returnToNormal limit).good := by
  unfold ReportUnit.returnToNormal
  split
  · have empty : ReportUnit.good { r with queueState := .normal, lostCount := 0, firstLost := none, lastLost := none } :=
      ⟨h.1, fun _ => ⟨rfl, rfl, rfl⟩⟩
    have marked := empty.offerMarker (.resync r.timeBase r.lostCount r.firstLost r.lastLost)
    unfold ReportUnit.offerMarker at marked ⊢
    dsimp only at marked ⊢
    split at marked
    · rename_i room
      rwa [if_pos room]
    · rename_i room
      rwa [if_neg room]
  · exact h

end

theorem runRound_reportGood {s : State} (h : s.report.good) (round : List TermChange) : (s.runRound round).report.good := by
  unfold State.runRound
  split
  · exact h
  · exact h.takeChanges _ _

theorem finishRound_reportGood {s : State} (h : s.report.good) (round : List TermChange) : (s.finishRound round).report.good := by
  have ran := runRound_reportGood h round
  unfold State.finishRound State.afterOverrun
  split
  · exact runRound_reportGood (by simpa using ran) _
  · exact ran

theorem switchEffect_reportGood {s : State} (h : s.report.good) : s.switchEffect.report.good :=
  finishRound_reportGood ((h.offerMarker _).of_sameQueue ⟨rfl, rfl, rfl, rfl, rfl⟩) _

theorem restart_reportGood (s : State) (keep : Bool) : (s.restart keep).report.good := by
  have fresh (keep timer) : (s.report.restart keep timer).good := ⟨Nat.le_of_ble_eq_true rfl, fun _ => ⟨rfl, rfl, rfl⟩⟩
  rcases s.restart_cases keep with ⟨b, -, -, h⟩ | ⟨-, h⟩ <;> rw [h]
  · exact finishRound_reportGood (fresh _ _) _
  · exact fresh _ _

theorem Change.keeps_reportGood {s t : State} (c : Change i s t) (h : s.report.good) : t.report.good := by
  cases c with
  | round => exact runRound_reportGood h _
  | marker => exact h.offerMarker _
  | report => exact h.of_sameQueue ‹_›
  | transfer => exact h.transfer.returnToNormal _
  | switch => exact switchEffect_reportGood h
  | restart => exact restart_reportGood _ _
  | powerOn => exact ⟨Nat.le_of_ble_eq_true rfl, fun _ => ⟨rfl, rfl, rfl⟩⟩
  | readbacks => simpa using h
  | accept => simpa using h
  | completeCheck => simpa using h
  | loop | conditions | pairs | clock | pending | desk | inputs | force | release | flasher | ends | judged | outcomes | place | bringUp
  | unblock | request | standby | openCheck | checkRuns | pendSwitch => exact h

/-! ### The receive queue (R162) -/

theorem Change.keeps_receiveQueue {s t : State} (c : Change i s t) (h : s.desk.receiveQueue.length ≤ 4) :
    t.desk.receiveQueue.length ≤ 4 := by
  cases c with
  | round => simpa using h
  | desk => exact ‹_ → _› h
  | switch => simpa using h
  | restart => simp [DeskPort.restart]
  | powerOn => exact Nat.zero_le 4
  | readbacks => simpa using h
  | accept => simpa using h
  | completeCheck => simpa using h
  | loop | conditions | pairs | clock | pending | inputs | force | release | flasher | marker | report | transfer | ends | judged | outcomes
  | place | bringUp | unblock | request | standby | openCheck | checkRuns | pendSwitch => exact h

/-- Settles O52: every small change keeps both bounds. -/
theorem stepsKeepTheQueuesBounded : Obligations.StepsKeepTheQueuesBounded := by
  intro s t received reported h
  obtain ⟨i, reaches⟩ := step_reaches h
  exact ⟨reaches.keeps State.receiveQueueGood (fun _ _ c => c.keeps_receiveQueue) received,
    reaches.keeps State.reportQueueGood (fun _ _ c => c.keeps_reportGood) reported⟩

/-! ### The forced list (R47) -/

theorem mem_forceIn_keys (k : Nat) (v : ContactValue) (xs : List (Nat × ContactValue)) (j : Nat) :
    j ∈ (forceIn k v xs).map Prod.fst ↔ j = k ∨ j ∈ xs.map Prod.fst := by
  induction xs with
  | nil => simp [forceIn]
  | cons x xs ih =>
    obtain ⟨k', w⟩ := x
    by_cases same : k' = k
    · simp [forceIn, same]
    · simp only [forceIn, same, if_false, List.map_cons, List.mem_cons, ih]
      tauto

theorem forceIn_nodup (k : Nat) (v : ContactValue) (xs : List (Nat × ContactValue)) (h : (xs.map Prod.fst).Nodup) :
    ((forceIn k v xs).map Prod.fst).Nodup := by
  induction xs with
  | nil => simp [forceIn]
  | cons x xs ih =>
    obtain ⟨k', w⟩ := x
    rw [List.map_cons, List.nodup_cons] at h
    by_cases same : k' = k
    · simpa [forceIn, same] using h
    · simp only [forceIn, same, if_false, List.map_cons, List.nodup_cons]
      exact ⟨fun hk => by rcases (mem_forceIn_keys k v xs k').mp hk with hk | hk
                          · exact same hk
                          · exact h.1 hk, ih h.2⟩

theorem forceIn_length (k : Nat) (v : ContactValue) (xs : List (Nat × ContactValue)) :
    (forceIn k v xs).length = xs.length + if k ∈ xs.map Prod.fst then 0 else 1 := by
  induction xs with
  | nil => simp [forceIn]
  | cons x xs ih =>
    obtain ⟨k', w⟩ := x
    by_cases same : k' = k
    · simp [forceIn, same]
    · simp only [forceIn, same, if_false, List.length_cons, ih, List.map_cons, List.mem_cons, Ne.symm same, false_or]
      omega

theorem ContactFilter.isForced_iff (c : ContactFilter) (k : Nat) : c.isForced k = true ↔ k ∈ c.forced.map Prod.fst := by
  simp [ContactFilter.isForced]

theorem State.selection_ne_none {s : State} (h : s.active? ≠ none) : s.tables.selection ≠ none := mt s.active_eq_none_iff.mpr h

theorem force_keeps_forcedListGood {s : State} {k : Nat} {v : ContactValue} (h : s.forcedListGood) (active : s.active? ≠ none)
    (room : s.filter.isForced k = true ∨ s.filter.forced.length < 32) :
    State.forcedListGood { s with filter := { s.filter with forced := forceIn k v s.filter.forced } } := by
  obtain ⟨few, distinct, -⟩ := h
  refine ⟨?_, forceIn_nodup k v _ distinct, fun none => absurd none (State.selection_ne_none active)⟩
  show (forceIn k v s.filter.forced).length ≤ 32
  rw [ContactFilter.isForced_iff] at room
  rw [forceIn_length]
  split
  · exact few
  · exact room.resolve_left ‹_›

theorem release_keeps_forcedListGood {s : State} (h : s.forcedListGood) (m : Memory) (k : Nat) :
    State.forcedListGood { s with filter := s.filter.release m k } := by
  obtain ⟨few, distinct, idle⟩ := h
  refine ⟨(List.length_filter_le _ _).trans few, distinct.sublist ((List.filter_sublist).map _), fun none => ?_⟩
  simp [ContactFilter.release, idle none]

theorem forcedListGood_of_empty {s : State} (h : s.filter.forced = []) : s.forcedListGood := by
  simp [State.forcedListGood, h]

theorem Change.keeps_forcedListGood {s t : State} (c : Change i s t) (h : s.forcedListGood) : t.forcedListGood := by
  cases c with
  | round => simpa [State.forcedListGood] using h
  | force => exact force_keeps_forcedListGood h ‹_› ‹_›
  | release => exact release_keeps_forcedListGood h _ _
  | switch => exact forcedListGood_of_empty (by simp [ContactFilter.startOn])
  | restart => exact forcedListGood_of_empty (State.restart_forced _ _)
  | powerOn => exact forcedListGood_of_empty rfl
  | readbacks => simpa [State.forcedListGood] using h
  | accept => simpa [State.forcedListGood] using h
  | standby => simpa [State.forcedListGood] using h
  | openCheck => simpa [State.forcedListGood, TableStore.openCheck] using h
  | completeCheck => simpa [State.forcedListGood] using h
  | loop | conditions | pairs | clock | pending | desk | inputs | flasher | marker | report | transfer | ends | judged | outcomes
  | place | bringUp | unblock | request | checkRuns | pendSwitch => exact h

/-! ### The position records (R1, R3, R9 to R11) -/

theorem Change.keeps_loopGood {s t : State} (c : Change i s t) (other : ∀ frame, i ≠ .loopInFrame frame) (h : s.loop.good) :
    t.loop.good := by
  cases c with
  | loop l good =>
    rcases good with ⟨frame, hi⟩ | good
    · exact absurd hi (other frame)
    · exact good h
  | round => simpa using h
  | switch => simpa using h.takeSwitch _ _
  | restart keep =>
    obtain ⟨survey, hl⟩ := State.restart_loop _ keep
    rw [hl]
    exact LoopController.good.restart _ _
  | powerOn => exact LoopController.reset_good
  | readbacks => simpa using h
  | accept => simpa using h
  | completeCheck => simpa using h
  | conditions | pairs | clock | pending | desk | inputs | force | release | flasher | marker | report | transfer | ends | judged | outcomes
  | place | bringUp | unblock | request | standby | openCheck | checkRuns | pendSwitch => exact h

/-- While a returned frame is read: no sweep is in flight, and of the positions that the sweep asks, those that have no outcome yet are
not ISOLATED, so that a corrupt report finds a score of 63 at most (R8, R10). -/
def FrameWalk.good (w : FrameWalk) (sw : Sweep) : Prop :=
  w.st.loop.recordsGood ∧ w.st.loop.phase < 4 ∧ w.st.loop.inFlight = none
    ∧ ∀ p, p < 32 → sw.mask.getLsbD p = true → p ∉ w.outcomes → (w.st.loop.position p).judged ≠ .isolated

theorem LoopController.sortReport_spec (l : LoopController) (r : CardReport) (h : l.recordsGood) :
    (l.sortReport r).recordsGood ∧ (l.sortReport r).phase = l.phase ∧ (l.sortReport r).inFlight = l.inFlight
      ∧ (l.sortReport r).state = l.state
      ∧ ∀ p, p < 32 → ((l.sortReport r).position p).judged = (l.position p).judged := by
  unfold LoopController.sortReport
  split
  · split <;> exact ⟨h, rfl, rfl, rfl, fun _ _ => rfl⟩
  · refine ⟨h.modifyPosition _ _ id, rfl, rfl, rfl, fun p hp => ?_⟩
    rw [l.position_modifyPosition _ _ p h.1 hp]
    split <;> rfl

@[simp] theorem State.acceptReport_loop (s : State) (b : Bank) (sw : Sweep) (r : CardReport) :
    (s.acceptReport b sw r).loop = s.loop.modifyPosition r.position fun x => x.accept r.supplyLow := by
  unfold State.acceptReport
  dsimp only
  rw [Event.close_loop, Event.judgeCards_loop]
  split
  · simp
  · split <;> simp

@[simp] theorem State.corruptRead_loop (s : State) (sw : Sweep) (p : Nat) :
    (s.corruptRead sw p).loop = s.loop.modifyPosition p fun x =>
      { x with score := x.score + 8, judged := if 64 ≤ x.score + 8 then .isolated else x.judged } := by
  unfold State.corruptRead
  dsimp only
  split <;> simp

theorem FrameWalk.good.take {w : FrameWalk} {sw : Sweep} (h : w.good sw) (b : Bank) (r : CardReport) : (w.take b sw r).good sw := by
  obtain ⟨records, phase, landed, asked⟩ := h
  obtain ⟨records', phase', flight', -, judged'⟩ := w.st.loop.sortReport_spec r records
  have sorted : FrameWalk.good { w with st := w.st.onLoop fun l => l.sortReport r } sw :=
    ⟨records', by simpa [phase'] using phase, by simpa [flight'] using landed,
      fun p hp hm ho => by rw [State.onLoop_loop, judged' p hp]; exact asked p hp hm ho⟩
  unfold FrameWalk.take
  dsimp only
  split
  · exact sorted
  · rename_i fresh
    push Not at fresh
    obtain ⟨below, asks, fresh⟩ := fresh
    have unisolated := sorted.2.2.2 r.position (by omega) (by simpa using asks) (by simpa using fresh)
    split
    · refine ⟨?_, ?_, ?_, fun p hp hm ho => ?_⟩
      · rw [State.corruptRead_loop]
        exact records'.modifyPosition _ _ fun good => good.corrupt unisolated
      · simpa [LoopController.modifyPosition, phase'] using phase
      · simpa [LoopController.modifyPosition, flight'] using landed
      · rw [List.mem_cons, not_or] at ho
        rw [State.corruptRead_loop, State.onLoop_loop, LoopController.position_modifyPosition _ _ _ p records'.1 hp, if_neg (Ne.symm ho.1)]
        exact sorted.2.2.2 p hp hm ho.2
    · split
      · exact sorted
      · split
        · refine ⟨?_, ?_, ?_, fun p hp hm ho => ?_⟩
          · rw [State.acceptReport_loop]
            exact records'.modifyPosition _ _ fun good => good.accept _
          · simpa [LoopController.modifyPosition, phase'] using phase
          · simpa [LoopController.modifyPosition, flight'] using landed
          · rw [List.mem_cons, not_or] at ho
            rw [State.acceptReport_loop, State.onLoop_loop, LoopController.position_modifyPosition _ _ _ p records'.1 hp, if_neg (Ne.symm ho.1)]
            exact sorted.2.2.2 p hp hm ho.2
        · exact sorted

theorem FrameWalk.good.takes {sw : Sweep} (b : Bank) (rs : List CardReport) (w : FrameWalk) (h : w.good sw) :
    (rs.foldl (FrameWalk.take b sw) w).good sw := by
  induction rs generalizing w with
  | nil => exact h
  | cons r rs ih => exact ih _ (h.take b r)

/-- What the settling of a frame's outcomes does to the loop controller (R8, R11, R12). -/
theorem FrameWalk.settle_loop (w : FrameWalk) (sw : Sweep) :
    (w.settle sw).loop =
      if w.mismatch then (w.st.loop.countMissed fun p => sw.mask.getLsbD p && !w.accepted.contains p).enterSurvey
      else w.st.loop.countMissed fun p => sw.mask.getLsbD p && !w.accepted.contains p := by
  simp [FrameWalk.settle]

theorem FrameWalk.good.settle {w : FrameWalk} {sw : Sweep} (h : w.good sw) : (w.settle sw).loop.good := by
  obtain ⟨records, phase, landed, -⟩ := h
  have counted : (w.st.loop.countMissed fun p => sw.mask.getLsbD p && !w.accepted.contains p).good :=
    ⟨records.countMissed _, phase, LoopController.asksNoIsolated_of_none landed⟩
  rw [w.settle_loop sw]
  split
  · exact counted.enterSurvey
  · exact counted

/-- The returned frame of a READ sweep is read and settled: the records stay in their ranges, since the sweep asked no ISOLATED
position (R3). -/
theorem readFrame_good {s : State} (h : s.loop.good) (b : Bank) {sw : Sweep} (flight : s.loop.inFlight = some sw)
    (running : s.loop.state = .running) (reports : List CardReport) :
    ((s.onLoop fun l => l.takeReturn sw).readFrame b sw reports).loop.good := by
  obtain ⟨records, phase, asks⟩ := h
  have start : FrameWalk.good { st := s.onLoop fun l => l.takeReturn sw, outcomes := [], accepted := [], mismatch := false } sw :=
    ⟨records, phase, rfl, fun p hp hm _ => asks sw flight running p hp hm⟩
  exact (start.takes b reports).settle

theorem LoopController.sortReports_spec (rs : List CardReport) (l : LoopController) (h : l.recordsGood) :
    (rs.foldl LoopController.sortReport l).recordsGood ∧ (rs.foldl LoopController.sortReport l).phase = l.phase
      ∧ (rs.foldl LoopController.sortReport l).inFlight = l.inFlight := by
  induction rs generalizing l with
  | nil => exact ⟨h, rfl, rfl⟩
  | cons r rs ih =>
    obtain ⟨records, phase, flight, -⟩ := l.sortReport_spec r h
    obtain ⟨records', phase', flight'⟩ := ih _ records
    exact ⟨records', phase'.trans phase, flight'.trans flight⟩

theorem judgeSurvey_good {l : LoopController} (records : l.recordsGood) (phase : l.phase < 4) (landed : l.inFlight = none) (m : Memory)
    (hops : Nat) (reports : List CardReport) : (l.judgeSurvey m hops reports).good := by
  unfold LoopController.judgeSurvey
  split
  · split
    · exact ⟨records.mapIdx (fun p r => r.judge m (cardList reports) p) fun p r hr => hr.judge m _ p, phase,
        LoopController.asksNoIsolated_of_none landed⟩
    · exact ⟨records, phase, LoopController.asksNoIsolated_of_none landed⟩
  · exact ⟨records, phase, LoopController.asksNoIsolated_of_none landed⟩

/-- What a returned survey sweep does to the loop controller (R8, R15 to R17). -/
theorem State.surveyFrame_loop (s : State) (b : Bank) (sw : Sweep) (hops : Nat) (reports : List CardReport) :
    (s.surveyFrame b sw hops reports).loop =
      ((reports.foldl LoopController.sortReport s.loop).countMissed
        ((reports.foldl LoopController.sortReport s.loop).surveyMisses b.memory sw.phase)).judgeSurvey b.memory hops reports := by
  simp [State.surveyFrame]

theorem surveyFrame_good {s : State} (h : s.loop.good) (b : Bank) (sw : Sweep) (hops : Nat) (reports : List CardReport) :
    ((s.onLoop fun l => l.takeReturn sw).surveyFrame b sw hops reports).loop.good := by
  obtain ⟨records, phase, -⟩ := h
  obtain ⟨records', phase', flight'⟩ := LoopController.sortReports_spec reports (s.loop.takeReturn sw) records
  rw [State.surveyFrame_loop]
  refine judgeSurvey_good (records'.countMissed _) ?_ flight' _ _ _
  exact phase'.trans_lt phase

theorem execLoopInFrame_loopGood {s t : State} {frame : List Byte} (h : s.loop.good) (step : execLoopInFrame frame s = .next t) :
    t.loop.good := by
  unfold execLoopInFrame at step
  split at step
  · rename_i b sw active flight
    split at step
    · cases step
      unfold State.takeFrame
      split
      · exact readFrame_good h b flight ‹_› _
      · exact surveyFrame_good h b sw _ _
      · exact h
      · exact h
    · cases step
      exact h
  · cases step
    exact h

theorem exec_keeps_loopGood {s t : State} (h : s.loop.good) (step : exec i s = .next t) : t.loop.good := by
  by_cases frames : ∃ frame, i = .loopInFrame frame
  · obtain ⟨frame, rfl⟩ := frames
    exact execLoopInFrame_loopGood h step
  · push Not at frames
    exact (exec_reaches step).keeps (fun u => u.loop.good) (fun _ _ c => c.keeps_loopGood frames) h

/-- Settles O53: every small change keeps the forced list, and every command the position records. -/
theorem stepsKeepForcedListAndPositions : Obligations.StepsKeepForcedListAndPositions := by
  intro s t forced positions h
  refine ⟨?_, (t.positionsGood_iff).mpr ?_⟩
  · obtain ⟨i, reaches⟩ := step_reaches h
    exact reaches.keeps State.forcedListGood (fun _ _ c => c.keeps_forcedListGood) forced
  · rw [s.positionsGood_iff] at positions
    unfold step at h
    split at h
    · cases h
      exact positions
    · rename_i c rest _
      exact exec_keeps_loopGood (s := { s with pending := rest }) positions h

end Sys2Proof.Machine
end

section
/-! The banks (R141, R150, R157) and the period in use (R64): each small change keeps them, and which of them touches the active bank. -/

namespace Sys2Proof.Machine

variable {i : Instr}

/-! ### The table store -/

/-- The banks as their rules state, a property of the table store alone. -/
def TableStore.good (t : TableStore) : Prop :=
  t.bankA.memory.wf = true ∧ t.bankB.memory.wf = true
    ∧ (∀ n, t.selection = some n → (t.bank n).passed)
    ∧ (∀ c, t.check = some c → c.bank = t.standbyName ∧ (t.bank c.bank).state = .checking)
    ∧ (t.switchPending = true → t.check = none ∧ t.standby.passed)

theorem State.banksGood_iff (s : State) : s.banksGood ↔ s.tables.good := Iff.rfl

theorem State.check_none_of_free {s : State} (free : s.tablesBusy = false) : s.tables.check = none ∧ s.tables.switchPending = false := by
  simpa [State.tablesBusy, State.checking] using free

@[simp] theorem Bank.checked_memory (b : Bank) : b.checked.memory = b.memory := by
  simp only [Bank.checked]

@[simp] theorem TableStore.setBank_switchPending (t : TableStore) (n : BankName) (b : Bank) :
    (t.setBank n b).switchPending = t.switchPending := by
  cases n <;> rfl

section
variable {t : TableStore}

@[simp] theorem TableStore.setStandby_standbyName (t : TableStore) (b : Bank) : (t.setStandby b).standbyName = t.standbyName := by
  simp [TableStore.standbyName]

/-- The banks' images after one bank is replaced are canonical where they were and the new one is. -/
theorem TableStore.setBank_wf {n : BankName} {b : Bank} (wfA : t.bankA.memory.wf = true) (wfB : t.bankB.memory.wf = true)
    (wf : b.memory.wf = true) : (t.setBank n b).bankA.memory.wf = true ∧ (t.setBank n b).bankB.memory.wf = true := by
  cases n with
  | a => exact ⟨wf, wfB⟩
  | b => exact ⟨wfA, wf⟩

theorem TableStore.bank_wf (wfA : t.bankA.memory.wf = true) (wfB : t.bankB.memory.wf = true) (n : BankName) : (t.bank n).memory.wf = true := by
  cases n with
  | a => exact wfA
  | b => exact wfB

/-- The active bank is not the standby, and so stays when the standby is replaced. -/
theorem TableStore.bank_setStandby_of_selected {n : BankName} (selected : t.selection = some n) (b : Bank) : (t.setStandby b).bank n = t.bank n :=
  t.bank_setStandby b n (t.standbyName_ne n selected)

theorem TableStore.good_reset : TableStore.reset.good :=
  ⟨rfl, rfl, fun n selected => absurd selected (Option.some_ne_none n).symm, fun c hc => absurd hc (Option.some_ne_none c).symm,
    fun hp => absurd hp Bool.false_ne_true⟩

theorem TableStore.good.setStandby (h : t.good) {b : Bank} (unchecked : t.check = none) (settled : t.switchPending = false)
    (wf : b.memory.wf = true) : (t.setStandby b).good := by
  obtain ⟨wfA, wfB, active, -, -⟩ := h
  obtain ⟨wfA', wfB'⟩ := TableStore.setBank_wf (n := t.standbyName) wfA wfB wf
  refine ⟨wfA', wfB', fun n selected => ?_, fun c hc => ?_, fun pending => ?_⟩
  · rw [TableStore.setStandby_selection] at selected
    rw [TableStore.bank_setStandby_of_selected selected]
    exact active n selected
  · simp [unchecked] at hc
  · simp [settled] at pending

theorem TableStore.good.openCheck (h : t.good) (settled : t.switchPending = false) (unchecked : t.check = none) (x : Taken) (duration : Nat) :
    (t.openCheck x duration).good := by
  obtain ⟨wfA', wfB', active', -, -⟩ :=
    h.setStandby (b := { t.standby with state := .checking }) unchecked settled (TableStore.bank_wf h.1 h.2.1 t.standbyName)
  refine ⟨wfA', wfB', active', fun c hc => ?_, fun pending => ?_⟩
  · obtain rfl := Option.some.inj hc
    refine ⟨(TableStore.setStandby_standbyName t _).symm, ?_⟩
    have standby := TableStore.standby_setStandby t { t.standby with state := .checking }
    rw [TableStore.standby, TableStore.setStandby_standbyName] at standby
    exact congrArg Bank.state standby
  · have : t.switchPending = true := by simpa [TableStore.openCheck] using pending
    simp [settled] at this

theorem TableStore.good.advance (h : t.good) : t.advance.good := by
  obtain ⟨wfA, wfB, active, checked, pending⟩ := h
  refine ⟨wfA, wfB, active, fun c hc => ?_, fun hp => ?_⟩
  · obtain ⟨c', hc', rfl⟩ := Option.map_eq_some_iff.mp hc
    exact checked c' hc'
  · obtain ⟨none, passed⟩ := pending hp
    exact ⟨by simp [TableStore.advance, none], passed⟩

/-- The bank under check is the standby, and its check's completion touches no other (R150, R154). -/
theorem TableStore.good.closeCheck (h : t.good) {c : CheckContext} (open_ : t.check = some c) {b : Bank} (wf : b.memory.wf = true) :
    TableStore.good { t.setBank c.bank b with check := none } := by
  obtain ⟨wfA, wfB, active, checked, pending⟩ := h
  obtain ⟨bank, -⟩ := checked c open_
  rw [bank]
  obtain ⟨wfA', wfB'⟩ := TableStore.setBank_wf (n := t.standbyName) wfA wfB wf
  refine ⟨by simpa using wfA', by simpa using wfB', fun n selected => ?_, fun c hc => absurd hc (Option.some_ne_none c).symm, fun hp => ?_⟩
  · have selected : t.selection = some n := by simpa using selected
    have stays := TableStore.bank_setStandby_of_selected selected b
    exact stays.symm ▸ active n selected
  · have hp : t.switchPending = true := (t.setStandby_switchPending b).symm.trans hp
    exact absurd ((pending hp).1.symm.trans open_) (Option.some_ne_none c).symm

theorem TableStore.good.takeSwitch (h : t.good) (unchecked : t.check = none) (passed : t.standby.passed) : t.takeSwitch.good := by
  refine ⟨h.1, h.2.1, fun n selected => ?_, fun c hc => ?_, fun hp => absurd hp Bool.false_ne_true⟩
  · obtain rfl := Option.some.inj selected
    exact passed
  · exact absurd (unchecked.symm.trans hc) (Option.some_ne_none c).symm

theorem TableStore.good.restart (h : t.good) (keep : Bool) : (t.restart keep).good := by
  obtain ⟨wfA, wfB, active, -, -⟩ := h
  cases keep with
  | false => exact TableStore.good_reset
  | true =>
    refine ⟨t.bankA.abandonCheck_memory ▸ wfA, t.bankB.abandonCheck_memory ▸ wfB, fun n selected => ?_,
      fun c hc => absurd hc (Option.some_ne_none c).symm, fun hp => absurd hp Bool.false_ne_true⟩
    rw [TableStore.restart_bank, (active n selected).abandonCheck]
    exact active n selected

end

theorem State.standby_passed_of_taken {s : State} (h : s.tables.good)
    (taken : s.tables.switchPending = true ∨ i = .switchTables ∧ s.tablesBusy = false ∧ s.tables.standby.passed) :
    s.tables.check = none ∧ s.tables.standby.passed := by
  obtain ⟨-, -, -, -, pending⟩ := h
  rcases taken with hp | ⟨-, free, passed⟩
  · exact pending hp
  · exact ⟨(State.check_none_of_free free).1, passed⟩

theorem Change.keeps_tablesGood {s t : State} (c : Change i s t) (h : s.tables.good) : t.tables.good := by
  cases c with
  | round => simpa using h
  | accept => simpa using h
  | readbacks => simpa using h
  | standby b free canonical =>
    obtain ⟨unchecked, settled⟩ := State.check_none_of_free free
    exact h.setStandby unchecked settled (canonical h.1 h.2.1)
  | openCheck x duration free =>
    obtain ⟨unchecked, settled⟩ := State.check_none_of_free free
    exact h.openCheck settled unchecked x duration
  | checkRuns => exact h.advance
  | completeCheck c open_ => 
    rw [State.completeCheck_tables]
    refine h.closeCheck open_ ?_
    rw [Bank.checked_memory]
    exact TableStore.bank_wf h.1 h.2.1 c.bank
  | pendSwitch switch free passed =>
    obtain ⟨wfA, wfB, active, checked, -⟩ := h
    exact ⟨wfA, wfB, active, checked, fun _ => ⟨(State.check_none_of_free free).1, passed⟩⟩
  | switch taken =>
    obtain ⟨unchecked, passed⟩ := State.standby_passed_of_taken h taken
    simpa using h.takeSwitch unchecked passed
  | restart keep => simpa using h.restart keep
  | powerOn => exact TableStore.good_reset
  | loop | conditions | pairs | clock | pending | desk | inputs | force | release | flasher | marker | report | transfer | ends | judged
  | outcomes | place | bringUp | unblock | request => exact h

/-! ### The active bank (R141) -/

/-- Whatever is written to the standby, the active bank stays. -/
theorem State.active_of_standby {s : State} {b : Bank} {u : TableStore} (tables : ∀ n, u.bank n = (s.tables.setStandby b).bank n)
    (selection : u.selection = s.tables.selection) : u.selection.map u.bank = s.active? := by
  rw [selection, State.active?]
  cases selected : s.tables.selection with
  | none => rfl
  | some n => simp [tables, TableStore.bank_setStandby_of_selected selected]

section
variable {s : State}

@[simp] theorem State.setStandby_active (b : Bank) : (s.onTables fun t => t.setStandby b).active? = s.active? :=
  State.active_of_standby (b := b) (fun _ => rfl) (by simp)

@[simp] theorem State.openCheck_active (x : Taken) (duration : Nat) :
    State.active? { s with tables := s.tables.openCheck x duration } = s.active? :=
  State.active_of_standby (b := { s.tables.standby with state := .checking }) (fun n => by cases n <;> rfl) (by simp [TableStore.openCheck])

@[simp] theorem State.checkRuns_active : State.active? { s with tables := s.tables.advance } = s.active? :=
  State.active_of_standby (b := s.tables.standby) (fun n => by rw [TableStore.setStandby_self]; cases n <;> rfl) rfl

theorem State.closeCheck_active (b : Bank) :
    State.active? { s with tables := { s.tables.setBank s.tables.standbyName b with check := none } } = s.active? :=
  State.active_of_standby (b := b) (fun n => by cases n <;> rfl) (s.tables.setStandby_selection b)

/-- The bank under check is not the active one, which so stays when the check completes (R150, R154). -/
theorem State.completeCheck_active (h : s.tables.good) {c : CheckContext} (open_ : s.tables.check = some c) :
    (s.completeCheck c).active? = s.active? := by
  obtain ⟨-, -, -, checked, -⟩ := h
  rw [State.active?, State.completeCheck_tables, (checked c open_).1]
  exact State.closeCheck_active _

end

/-- A switch, a restart and a power-on apart, no small change moves the selection or touches the active bank. -/
theorem Change.keeps_active {s t : State} (c : Change i s t) (h : s.tables.good) (settled : s.tables.switchPending = false)
    (noPower : ∀ straps outen link, i ≠ .powerOn straps outen link) (noReset : i ≠ .resetPin) (noRestart : i ≠ .restart)
    (noSwitch : i ≠ .switchTables) :
    t.tables.switchPending = false ∧ t.tables.selection = s.tables.selection ∧ t.active? = s.active? := by
  cases c with
  | round => simp [settled, State.active?]
  | accept => simp [settled, State.active?]
  | readbacks => simp [settled, State.active?]
  | standby => exact ⟨by simpa using settled, by simp, by simp⟩
  | openCheck => exact ⟨by simpa [TableStore.openCheck] using settled, by simp [TableStore.openCheck], by simp⟩
  | completeCheck c open_ =>
    refine ⟨?_, by simp, State.completeCheck_active h open_⟩
    rw [State.completeCheck_tables]
    exact (TableStore.setBank_switchPending _ _ _).trans settled
  | checkRuns => exact ⟨settled, rfl, by simp⟩
  | pendSwitch switch => exact absurd switch noSwitch
  | switch taken =>
    rcases taken with pending | ⟨switch, -⟩
    · simp [settled] at pending
    · exact absurd switch noSwitch
  | restart keep command => exact (command.elim noRestart noReset).elim
  | powerOn straps outen link command => exact absurd command (noPower _ _ _)
  | loop | conditions | pairs | clock | pending | desk | inputs | force | release | flasher | marker | report | transfer | ends | judged
  | outcomes | place | bringUp | unblock | request => exact ⟨settled, rfl, rfl⟩

/-- Settles O59: the small changes that move the active bank belong to the commands named. -/
theorem onlySwitchesChangeTheActiveBank : Obligations.OnlySwitchesChangeTheActiveBank := by
  intro i s t banks settled noPower noReset noRestart noSwitch h
  have keeps := (exec_reaches h).keeps
    (fun u => u.tables.good ∧ u.tables.switchPending = false ∧ u.tables.selection = s.tables.selection ∧ u.active? = s.active?)
    (fun u v c ⟨good, settled, selection, active⟩ => by
      obtain ⟨settled', selection', active'⟩ := c.keeps_active good settled noPower noReset noRestart noSwitch
      exact ⟨c.keeps_tablesGood good, settled', selection'.trans selection, active'.trans active⟩)
    ⟨banks, settled, rfl, rfl⟩
  exact keeps.2.2
/-! ### The period in use (R64) -/

theorem inBand_nominal (n : Nat) : inBand n n := by
  unfold inBand
  omega

theorem State.periodGood_of_startOn {s : State} {b : Bank} (active : s.active? = some b) (flasher : s.flasher = FlasherMonitor.startOn b) :
    s.periodGood := by
  intro b' p active' period
  obtain rfl := Option.some.inj (active.symm.trans active')
  rw [flasher] at period
  obtain rfl := Option.some.inj period
  exact inBand_nominal _

theorem State.periodGood_of_idle {s : State} (idle : s.active? = none) : s.periodGood :=
  fun b _ active => absurd (idle.symm.trans active) (Option.some_ne_none b).symm

theorem State.periodGood_of_same {s t : State} (h : s.periodGood) (active : t.active? = s.active?) (flasher : t.flasher = s.flasher) :
    t.periodGood :=
  fun b p hb hp => h b p (active ▸ hb) (flasher ▸ hp)

theorem restart_periodGood {s : State} (banks : s.tables.good) (keep : Bool) : (s.restart keep).periodGood := by
  rcases s.restart_cases keep with ⟨b, rfl, active, h⟩ | ⟨idle, -⟩
  · obtain ⟨n, selected, rfl⟩ := Option.map_eq_some_iff.mp active
    refine State.periodGood_of_startOn (State.restart_active_kept active) ?_
    rw [(banks.2.2.1 n selected).abandonCheck, h]
    simp [State.restartOn]
  · exact State.periodGood_of_idle (State.restart_active_none idle).2

theorem Change.keeps_periodGood {s t : State} (c : Change i s t) (banks : s.tables.good) (h : s.periodGood) : t.periodGood := by
  cases c with
  | round => exact State.periodGood_of_same h (by simp [State.active?]) (by simp)
  | accept => exact State.periodGood_of_same h (by simp [State.active?]) (by simp)
  | readbacks => exact State.periodGood_of_same h (by simp [State.active?]) (by simp)
  | standby => exact State.periodGood_of_same h (by simp) rfl
  | openCheck => exact State.periodGood_of_same h (by simp) rfl
  | checkRuns => exact State.periodGood_of_same h (by simp) rfl
  | completeCheck c open_ => exact State.periodGood_of_same h (State.completeCheck_active banks open_) (by simp)
  | flasher f period =>
    intro b p active hp
    rcases period with same | ⟨b', p', active', hp', band⟩
    · exact h b p active (same ▸ hp)
    · obtain rfl := Option.some.inj (active'.symm.trans active)
      obtain rfl := Option.some.inj (hp'.symm.trans hp)
      exact band
  | switch => exact State.periodGood_of_startOn (State.switchEffect_active _) (State.switchEffect_flasher _)
  | restart keep => exact restart_periodGood banks keep
  | powerOn => exact State.periodGood_of_idle rfl
  | loop | conditions | pairs | clock | pending | desk | inputs | force | release | marker | report | transfer | ends | judged
  | outcomes | place | bringUp | unblock | request | pendSwitch => exact State.periodGood_of_same h rfl rfl

/-- Settles O54: every small change keeps the banks, and with good banks the period in use. -/
theorem stepsKeepTheBanks : Obligations.StepsKeepTheBanks := by
  intro s t banks period h
  obtain ⟨i, reaches⟩ := step_reaches h
  exact reaches.keeps (fun u => u.banksGood ∧ u.periodGood)
    (fun _ _ c ⟨banks, period⟩ => ⟨c.keeps_tablesGood banks, c.keeps_periodGood banks period⟩) ⟨banks, period⟩

end Sys2Proof.Machine
end

section
/-! The requests (R121, R124 to R128): which small changes occupy, end or block, and that each keeps the places, the rule of authority and
the outputs apart. -/

namespace Sys2Proof.Machine

variable {i : Instr}

/-! ### The slots -/

/-- The requests in flight: tag and point of each occupied slot. -/
def RequestEngine.requests (r : RequestEngine) : List (Word16 × Nat) := r.occupied.map fun sl => (sl.tag, sl.point)

theorem RequestEngine.requests_of_slots {r u : RequestEngine} (h : u.slots = r.slots) : u.requests = r.requests := by
  simp only [RequestEngine.requests, RequestEngine.occupied, h]

theorem RequestEngine.requests_eq_nil {r : RequestEngine} (h : r.occupied = []) : r.requests = [] := by
  simp [RequestEngine.requests, h]

theorem RequestEngine.endSlots_requests (r : RequestEngine) (which : Slot → Bool) (result : RequestResult) (stamp : Stamp)
    (reasons : Option Reasons) : (r.endSlots which result stamp reasons).requests.Sublist r.requests := by
  rw [RequestEngine.requests, RequestEngine.endSlots_occupied]
  exact List.filter_sublist.map _

@[simp] theorem Slot.goOn_tag (sl : Slot) : sl.goOn.tag = sl.tag := by
  unfold Slot.goOn
  split <;> rfl

@[simp] theorem Slot.goOn_point (sl : Slot) : sl.goOn.point = sl.point := by
  unfold Slot.goOn
  split <;> rfl

theorem RequestEngine.bringUpToDate_requests (r : RequestEngine) (b : Bank) {f : Slot → Slot} (stamp : Stamp)
    (keeps : ∀ sl, (f sl).tag = sl.tag ∧ (f sl).point = sl.point) : (r.bringUpToDate b f stamp).requests.Sublist r.requests := by
  have same : ((fun sl : Slot => (sl.tag, sl.point)) ∘ fun sl => (f sl).goOn) = fun sl => (sl.tag, sl.point) := by
    funext sl
    simp [keeps sl]
  rw [RequestEngine.requests, RequestEngine.bringUpToDate_occupied, List.map_map, same]
  exact List.filter_sublist.map _

/-- A slot that ends as R130 states moves to the outcome list: the places in use stay as many. -/
theorem RequestEngine.bringUpToDate_places (r : RequestEngine) (b : Bank) (f : Slot → Slot) (stamp : Stamp) :
    (r.bringUpToDate b f stamp).outcomes.length + (r.bringUpToDate b f stamp).occupied.length = r.outcomes.length + r.occupied.length := by
  have split (xs : List Slot) :
      (xs.filterMap fun sl => ((f sl).ending b).map fun result => (f sl).outcome result stamp none).length
        + (xs.filter fun sl => ((f sl).ending b).isNone).length = xs.length := by
    induction xs with
    | nil => rfl
    | cons x xs ih => cases h : (f x).ending b <;> simp [h] <;> omega
  rw [RequestEngine.bringUpToDate_occupied]
  have := split r.occupied
  simp only [RequestEngine.bringUpToDate, List.length_append, List.length_map]
  omega

theorem occupy_length (sl : Slot) (xs : List (Option Slot)) : (occupy sl xs).length = xs.length := by
  induction xs with
  | nil => rfl
  | cons x xs ih => cases x <;> simp [occupy, ih]

/-- The slot that is occupied stands beside those occupied before. -/
theorem occupy_perm (sl : Slot) {xs : List (Option Slot)} (free : xs.all Option.isSome = false) :
    ((occupy sl xs).filterMap id).Perm (sl :: xs.filterMap id) := by
  induction xs with
  | nil => simp at free
  | cons x xs ih =>
    cases x with
    | none => exact .refl _
    | some y =>
      have rest := ih (by simpa using free)
      exact (rest.cons y).trans (.swap sl y _)

/-! ### An OPERATE that passes its checks (R126) -/

/-- What R126 asks of an OPERATE before it is accepted. -/
structure State.operatePasses (s : State) (b : Bank) (tag : Word16) (q : Nat) : Prop where
  authority : s.request.authority = true
  defined : b.memory.defined q = true
  tagFree : ∀ sl ∈ s.request.occupied, sl.tag ≠ tag
  unblocked : ∀ o ∈ b.memory.pointOutputs q, o ∉ s.request.blocked
  idle : ∀ sl ∈ s.request.occupied, ∀ o ∈ b.memory.pointOutputs sl.point, o ∉ b.memory.pointOutputs q
  slotFree : s.request.slots.all Option.isSome = false

theorem State.operateRefusal_none {s : State} {b : Bank} {tag : Word16} {q : Nat} (h : s.operateRefusal b tag q = none) :
    s.operatePasses b tag q := by
  unfold State.operateRefusal at h
  dsimp only at h
  iterate 6
    split at h
    · cases h
  rename_i authority defined tags blocked busy slots
  exact ⟨by simpa using authority, by simpa using defined, by simpa using tags, by simpa using blocked, by simpa using busy,
    by simpa using slots⟩

/-- An accepted OPERATE leaves the slots as they were or occupies one more; blocked outputs and authority stay. -/
theorem State.acceptOperate_request (s : State) (b : Bank) (tag : Word16) (q : Nat) :
    (∃ o, (s.acceptOperate b tag q).request = s.request.place o)
      ∨ (s.acceptOperate b tag q).request = { s.request with slots := occupy (b.newSlot tag q s.now) s.request.slots } := by
  unfold State.acceptOperate
  dsimp only
  split
  · exact .inl ⟨_, rfl⟩
  · exact .inr rfl

/-! ### What a small change does to the requests -/

theorem Change.requests_cases {s t : State} (c : Change i s t) :
    t.request.requests.Sublist s.request.requests
      ∨ ∃ b tag q, i = .operate ∧ s.active? = some b ∧ s.operatePasses b tag q ∧ t = s.acceptOperate b tag q := by
  cases c with
  | accept b tag q operate active free passes => exact .inr ⟨b, tag, q, operate, active, State.operateRefusal_none passes, rfl⟩
  | round => exact .inl (by simp)
  | completeCheck => exact .inl (by simp)
  | ends => exact .inl (RequestEngine.endSlots_requests _ _ _ _ _)
  | judged reasons stamp =>
    refine .inl ?_
    show (s.request.judged reasons stamp).requests.Sublist _
    unfold RequestEngine.judged
    split
    · exact .refl _
    · exact RequestEngine.endSlots_requests _ _ _ _ _
  | bringUp b f stamp keeps => exact .inl (RequestEngine.bringUpToDate_requests _ _ _ keeps)
  | readbacks b p values stamp =>
    refine .inl ?_
    have ended := (s.request.checkCard p values).endSlots_requests
      (fun sl => (b.memory.pointOutputs sl.point).any fun k => (s.request.checkCard p values).blocked.contains k && !s.request.blocked.contains k)
      .abortedOutputFault stamp none
    rwa [RequestEngine.requests_of_slots (s.request.checkCard_slots p values)] at ended
  | request r same =>
    obtain ⟨-, slots, -⟩ := same
    exact .inl (by rw [RequestEngine.requests_of_slots slots])
  | switch => exact .inl (by rw [RequestEngine.requests_eq_nil (State.switchEffect_occupied _)]; exact List.nil_sublist _)
  | restart keep => exact .inl (by rw [RequestEngine.requests_eq_nil (State.restart_occupied _ keep)]; exact List.nil_sublist _)
  | powerOn => exact .inl (List.nil_sublist _)
  | loop | conditions | pairs | clock | pending | desk | inputs | force | release | flasher | marker | report | transfer
  | outcomes | place | unblock | standby | openCheck | checkRuns | pendSwitch => exact .inl (.refl _)

/-- Settles O60: a chain of small changes of another command takes requests away at most. -/
theorem onlyOperateOccupiesASlot : Obligations.OnlyOperateOccupiesASlot := by
  intro i s t other h
  refine (exec_reaches h).keeps (fun u => u.request.requests.Sublist s.request.requests) (fun u v c sub => ?_) (.refl _)
  rcases c.requests_cases with fewer | ⟨_, _, _, operate, _⟩
  · exact fewer.trans sub
  · exact absurd operate other

end Sys2Proof.Machine
end

section
/-! The places of the request engine (R124), the rule of authority (R121), and outputs apart (R128). -/

namespace Sys2Proof.Machine

variable {i : Instr}

/-! ### The places (R124) -/

/-- 8 slots, and at most 16 places in use. -/
def RequestEngine.placesGood (r : RequestEngine) : Prop := r.slots.length = 8 ∧ r.outcomes.length + r.occupied.length ≤ 16

theorem State.placesGood_iff (s : State) : s.placesGood ↔ s.request.placesGood := Iff.rfl

section
variable {r : RequestEngine}

theorem RequestEngine.placesGood.endSlots (h : r.placesGood) (which : Slot → Bool) (result : RequestResult) (stamp : Stamp)
    (reasons : Option Reasons) : (r.endSlots which result stamp reasons).placesGood :=
  ⟨by simpa using h.1, (r.endSlots_places which result stamp reasons).trans_le h.2⟩

theorem RequestEngine.placesGood.judged (h : r.placesGood) (reasons : Reasons) (stamp : Stamp) : (r.judged reasons stamp).placesGood := by
  unfold RequestEngine.judged
  split
  · exact h
  · exact RequestEngine.placesGood.endSlots (r := { r with authority := reasons.isEmpty, reasons := reasons }) h _ _ _ _

theorem RequestEngine.placesGood.bringUpToDate (h : r.placesGood) (b : Bank) (f : Slot → Slot) (stamp : Stamp) :
    (r.bringUpToDate b f stamp).placesGood :=
  ⟨by simpa [RequestEngine.bringUpToDate] using h.1, (r.bringUpToDate_places b f stamp).trans_le h.2⟩

theorem RequestEngine.placesGood.place (h : r.placesGood) (free : r.freePlace = true) (o : OutcomeRecord) : (r.place o).placesGood := by
  have room : r.outcomes.length + r.occupied.length < 16 := by simpa [RequestEngine.freePlace] using free
  refine ⟨h.1, ?_⟩
  show (r.outcomes ++ [o]).length + r.occupied.length ≤ 16
  rw [List.length_append, List.length_singleton]
  omega

theorem RequestEngine.placesGood.occupy (h : r.placesGood) (free : r.freePlace = true) (slotFree : r.slots.all Option.isSome = false)
    (sl : Slot) : RequestEngine.placesGood { r with slots := occupy sl r.slots } := by
  have room : r.outcomes.length + r.occupied.length < 16 := by simpa [RequestEngine.freePlace] using free
  refine ⟨(occupy_length sl r.slots).trans h.1, ?_⟩
  have more := (occupy_perm sl slotFree).length_eq
  simp only [List.length_cons] at more
  simp only [RequestEngine.occupied] at room ⊢
  omega

theorem RequestEngine.placesGood.checkCard (h : r.placesGood) (p values : Nat) : (r.checkCard p values).placesGood := by
  simpa [RequestEngine.placesGood] using h

theorem RequestEngine.placesGood.of_samePlaces (h : r.placesGood) {u : RequestEngine} (same : r.samePlaces u) : u.placesGood := by
  obtain ⟨-, slots, outcomes, -⟩ := same
  simpa only [RequestEngine.placesGood, RequestEngine.occupied, slots, outcomes] using h

theorem RequestEngine.placesGood.outcomes (h : r.placesGood) {os : List OutcomeRecord} (few : os.length ≤ r.outcomes.length) :
    RequestEngine.placesGood { r with outcomes := os } := by
  refine ⟨h.1, ?_⟩
  have : r.outcomes.length + r.occupied.length ≤ 16 := h.2
  show os.length + r.occupied.length ≤ 16
  omega

/-- After a restart or a power-on the 8 slots are free and no outcome stands. -/
theorem RequestEngine.placesGood_of_empty (slots : r.slots = List.replicate 8 none) (outcomes : r.outcomes = []) : r.placesGood := by
  simp [RequestEngine.placesGood, RequestEngine.occupied, slots, outcomes]

end

theorem switchEffect_placesGood {s : State} (h : s.request.placesGood) : s.switchEffect.request.placesGood := by
  obtain ⟨slots, outcomes⟩ := s.switchEffect_slots
  simpa only [RequestEngine.placesGood, RequestEngine.occupied, slots, outcomes] using
    h.endSlots (fun _ => true) .abortedTableSwitch s.now none

theorem Change.keeps_placesGood {s t : State} (c : Change i s t) (h : s.request.placesGood) : t.request.placesGood := by
  cases c with
  | round => simpa using h
  | completeCheck => simpa using h
  | ends => exact h.endSlots _ _ _ _
  | judged => exact h.judged _ _
  | outcomes os few => exact h.outcomes few
  | place o free => exact h.place free o
  | accept b tag q operate active free passes =>
    rcases s.acceptOperate_request b tag q with ⟨o, hr⟩ | hr <;> rw [hr]
    · exact h.place free o
    · exact h.occupy free (State.operateRefusal_none passes).slotFree _
  | bringUp => exact h.bringUpToDate _ _ _
  | readbacks => exact (h.checkCard _ _).endSlots _ _ _ _
  | request r same => exact h.of_samePlaces same
  | switch => exact switchEffect_placesGood h
  | restart keep =>
    obtain ⟨slots, outcomes, -⟩ := State.restart_request _ keep
    exact RequestEngine.placesGood_of_empty slots outcomes
  | powerOn => exact RequestEngine.placesGood_of_empty rfl rfl
  | loop | conditions | pairs | clock | pending | desk | inputs | force | release | flasher | marker | report | transfer | unblock | standby
  | openCheck | checkRuns | pendSwitch => exact h

/-! ### Without authority no request is in flight (R121) -/

/-- Where authority does not hold no slot is occupied. -/
def RequestEngine.authorityGood (r : RequestEngine) : Prop := r.authority = false → r.occupied = []

theorem State.authorityGood_iff (s : State) : s.authorityGood ↔ s.request.authorityGood := by
  refine ⟨fun h none => (h none).1, fun h none => ⟨h none, ?_⟩⟩
  unfold State.commandedOn
  split
  · rfl
  · simp [h none]

section
variable {r : RequestEngine}

theorem RequestEngine.authorityGood_of_held (held : r.authority = true) : r.authorityGood := fun none => by simp [held] at none

theorem RequestEngine.authorityGood.endSlots (h : r.authorityGood) (which : Slot → Bool) (result : RequestResult) (stamp : Stamp)
    (reasons : Option Reasons) : (r.endSlots which result stamp reasons).authorityGood := by
  intro none
  rw [RequestEngine.endSlots_occupied, h none]
  rfl

/-- Where authority is judged not to hold every request has ended (R121). -/
theorem RequestEngine.judged_authorityGood (r : RequestEngine) (reasons : Reasons) (stamp : Stamp) :
    (r.judged reasons stamp).authorityGood := by
  unfold RequestEngine.judged
  split
  · exact RequestEngine.authorityGood_of_held ‹_›
  · intro _
    rw [RequestEngine.endSlots_occupied]
    simp

theorem RequestEngine.authorityGood.bringUpToDate (h : r.authorityGood) (b : Bank) (f : Slot → Slot) (stamp : Stamp) :
    (r.bringUpToDate b f stamp).authorityGood := by
  intro none
  rw [RequestEngine.bringUpToDate_occupied, h none]
  rfl

theorem RequestEngine.authorityGood.checkCard (h : r.authorityGood) (p values : Nat) : (r.checkCard p values).authorityGood := by
  simpa [RequestEngine.authorityGood] using h

theorem RequestEngine.authorityGood.of_samePlaces (h : r.authorityGood) {u : RequestEngine} (same : r.samePlaces u) : u.authorityGood := by
  obtain ⟨authority, slots, -⟩ := same
  simpa only [RequestEngine.authorityGood, RequestEngine.occupied, slots, authority] using h

end

theorem Change.keeps_authorityGood {s t : State} (c : Change i s t) (h : s.request.authorityGood) : t.request.authorityGood := by
  cases c with
  | round => simpa using h
  | completeCheck => simpa using h
  | ends => exact h.endSlots _ _ _ _
  | judged => exact RequestEngine.judged_authorityGood _ _ _
  | accept b tag q operate active free passes =>
    have held := (State.operateRefusal_none passes).authority
    rcases s.acceptOperate_request b tag q with ⟨o, hr⟩ | hr <;> rw [hr] <;> exact RequestEngine.authorityGood_of_held held
  | bringUp => exact h.bringUpToDate _ _ _
  | readbacks => exact (h.checkCard _ _).endSlots _ _ _ _
  | request r same => exact h.of_samePlaces same
  | switch => exact fun _ => State.switchEffect_occupied _
  | restart keep => exact fun _ => State.restart_occupied _ keep
  | powerOn => exact fun _ => rfl
  | loop | conditions | pairs | clock | pending | desk | inputs | force | release | flasher | marker | report | transfer | outcomes | place
  | unblock | standby | openCheck | checkRuns | pendSwitch => exact h

/-- Settles O55: every small change keeps the places, and the slots free without authority. -/
theorem stepsKeepTheRequests : Obligations.StepsKeepTheRequests := by
  intro s t places authority h
  obtain ⟨i, reaches⟩ := step_reaches h
  rw [s.authorityGood_iff] at authority
  exact ⟨reaches.keeps State.placesGood (fun _ _ c => c.keeps_placesGood) places,
    t.authorityGood_iff.mpr (reaches.keeps (fun u => u.request.authorityGood) (fun _ _ c => c.keeps_authorityGood) authority)⟩

/-! ### The image of the active bank -/

/-- The tables of the active bank, if one is active. -/
def State.activeMemory (s : State) : Option Memory := s.active?.map Bank.memory

/-- The part has taken up other tables: by a switch, a restart or a power-on. -/
def State.tookUp (s t : State) : Prop :=
  t = s.switchEffect ∨ (∃ keep, t = s.restart keep) ∨ ∃ straps outen link, t = s.powerOn straps outen link

theorem State.completeCheck_activeMemory (s : State) (c : CheckContext) : (s.completeCheck c).activeMemory = s.activeMemory := by
  have memory (n : BankName) : ((s.completeCheck c).tables.bank n).memory = (s.tables.bank n).memory := by
    rw [State.completeCheck_tables]
    generalize hb : (s.tables.bank c.bank).checked = b
    have same : b.memory = (s.tables.bank c.bank).memory := by rw [← hb, Bank.checked_memory]
    cases n <;> cases hc : c.bank <;> simp_all [TableStore.setBank, TableStore.bank]
  simp only [State.activeMemory, State.active?, State.completeCheck_tables, TableStore.setBank_selection, Option.map_map]
  cases s.tables.selection with
  | none => rfl
  | some n =>
    have := memory n
    rw [State.completeCheck_tables] at this
    exact congrArg some this

theorem Change.activeMemory_cases {s t : State} (c : Change i s t) : t.activeMemory = s.activeMemory ∨ s.tookUp t := by
  cases c with
  | round => exact .inl (by simp [State.activeMemory, State.active?])
  | accept => exact .inl (by simp [State.activeMemory, State.active?])
  | readbacks => exact .inl (by simp [State.activeMemory, State.active?])
  | standby => exact .inl (by simp [State.activeMemory])
  | openCheck => exact .inl (by simp [State.activeMemory])
  | checkRuns => exact .inl (by simp [State.activeMemory])
  | completeCheck c => exact .inl (State.completeCheck_activeMemory _ c)
  | switch => exact .inr (.inl rfl)
  | restart keep => exact .inr (.inr (.inl ⟨keep, rfl⟩))
  | powerOn straps outen link => exact .inr (.inr (.inr ⟨straps, outen, link, rfl⟩))
  | loop | conditions | pairs | clock | pending | desk | inputs | force | release | flasher | marker | report | transfer | ends | judged
  | outcomes | place | bringUp | unblock | request | pendSwitch => exact .inl rfl

/-! ### Outputs apart (R128) -/

/-- The outputs that point `q` names in the active bank. -/
def State.pointOutputs (s : State) (q : Nat) : List Nat := (s.activeMemory.map fun m => m.pointOutputs q).getD []

theorem State.slotOutputs_eq (s : State) (sl : Slot) : s.slotOutputs sl = s.pointOutputs sl.point := by
  unfold State.slotOutputs State.pointOutputs State.activeMemory
  cases s.active? <;> rfl

theorem State.pointOutputs_of_active {s : State} {b : Bank} (active : s.active? = some b) (q : Nat) :
    s.pointOutputs q = b.memory.pointOutputs q := by
  simp [State.pointOutputs, State.activeMemory, active]

theorem State.pointOutputs_same {s t : State} (h : t.activeMemory = s.activeMemory) : t.pointOutputs = s.pointOutputs := by
  funext q
  rw [State.pointOutputs, h]
  rfl

/-- The outputs of requests are apart from each other and from blocked ones. -/
def apart (outputs : Nat → List Nat) (requests : List (Word16 × Nat)) (blocked : List Nat) : Prop :=
  requests.Pairwise (fun x y => ∀ o ∈ outputs x.2, o ∉ outputs y.2) ∧ ∀ x ∈ requests, ∀ o ∈ outputs x.2, o ∉ blocked

theorem State.outputsApart_iff (s : State) : s.outputsApart ↔ apart s.pointOutputs s.request.requests s.request.blocked := by
  simp only [State.outputsApart, apart, RequestEngine.requests, List.pairwise_map, List.forall_mem_map, State.slotOutputs_eq]

theorem apart_nil (outputs : Nat → List Nat) (blocked : List Nat) : apart outputs [] blocked := ⟨.nil, by simp⟩

theorem apart.fewer {outputs : Nat → List Nat} {xs ys : List (Word16 × Nat)} {blocked blocked' : List Nat} (h : apart outputs xs blocked)
    (requests : ys.Sublist xs) (fewer : ∀ o ∈ blocked', o ∈ blocked) : apart outputs ys blocked' :=
  ⟨h.1.sublist requests, fun y hy o ho hb => h.2 y (requests.subset hy) o ho (fewer o hb)⟩

/-- One more request whose outputs are apart from all. -/
theorem apart.insert {outputs : Nat → List Nat} {xs ys : List (Word16 × Nat)} {blocked : List Nat} (h : apart outputs xs blocked)
    {x : Word16 × Nat} (perm : ys.Perm (x :: xs)) (idle : ∀ y ∈ xs, ∀ o ∈ outputs y.2, o ∉ outputs x.2)
    (unblocked : ∀ o ∈ outputs x.2, o ∉ blocked) : apart outputs ys blocked := by
  refine ⟨(perm.pairwise_iff fun {a b} hab o hb ha => hab o ha hb).mpr (.cons (fun y hy o hx hy' => idle y hy o hy' hx) h.1),
    fun y hy o ho => ?_⟩
  rcases List.mem_cons.mp (perm.mem_iff.mp hy) with rfl | hy
  · exact unblocked o ho
  · exact h.2 y hy o ho

theorem acceptOperate_apart {s : State} {b : Bank} {tag : Word16} {q : Nat} (active : s.active? = some b) (passes : s.operatePasses b tag q)
    (h : apart s.pointOutputs s.request.requests s.request.blocked) :
    apart s.pointOutputs (s.acceptOperate b tag q).request.requests (s.acceptOperate b tag q).request.blocked := by
  rcases s.acceptOperate_request b tag q with ⟨o, hr⟩ | hr <;> rw [hr]
  · exact h
  · refine h.insert (x := (tag, q)) ((occupy_perm (b.newSlot tag q s.now) passes.slotFree).map _) ?_ ?_
    · intro y hy o ho
      obtain ⟨sl, hsl, rfl⟩ := List.mem_map.mp hy
      rw [State.pointOutputs_of_active active] at ho ⊢
      exact passes.idle sl hsl o ho
    · intro o ho
      rw [State.pointOutputs_of_active active] at ho
      exact passes.unblocked o ho

/-- Every slot whose point names a newly blocked output ends (R134), so those that go on name none. -/
theorem readbacks_apart {s : State} {b : Bank} (active : s.active? = some b) (p values : Nat) (stamp : Stamp)
    (h : apart s.pointOutputs s.request.requests s.request.blocked) :
    apart s.pointOutputs ((s.request.checkCard p values).endBlocked s.request b.memory stamp).requests
      ((s.request.checkCard p values).endBlocked s.request b.memory stamp).blocked := by
  have occupied : ((s.request.checkCard p values).endBlocked s.request b.memory stamp).occupied
      = s.request.occupied.filter fun sl => !(b.memory.pointOutputs sl.point).any fun k =>
        (s.request.checkCard p values).blocked.contains k && !s.request.blocked.contains k := by
    rw [RequestEngine.endBlocked_occupied, RequestEngine.checkCard_occupied]
  rw [RequestEngine.requests, occupied, RequestEngine.endBlocked, RequestEngine.endSlots_blocked]
  refine ⟨h.1.sublist (List.filter_sublist.map _), fun x hx o ho blocked => ?_⟩
  obtain ⟨sl, hsl, rfl⟩ := List.mem_map.mp hx
  obtain ⟨hsl, goesOn⟩ := List.mem_filter.mp hsl
  have before : o ∉ s.request.blocked := h.2 (sl.tag, sl.point) (List.mem_map_of_mem hsl) o ho
  rw [State.pointOutputs_of_active active] at ho
  simp only [Bool.not_eq_true', List.any_eq_false, Bool.and_eq_true, List.contains_iff_mem, not_and] at goesOn
  exact goesOn o ho blocked (by simpa using before)

theorem State.tookUp.idle {s t : State} (h : s.tookUp t) : t.request.requests = [] := by
  refine RequestEngine.requests_eq_nil ?_
  rcases h with rfl | ⟨keep, rfl⟩ | ⟨_, _, _, rfl⟩
  · exact s.switchEffect_occupied
  · exact s.restart_occupied keep
  · rfl

/-- Only a readback adds to the blocked outputs. -/
theorem Change.blocked_cases {s t : State} (c : Change i s t) :
    (∀ o ∈ t.request.blocked, o ∈ s.request.blocked) ∨ s.tookUp t
      ∨ ∃ b p values stamp, s.active? = some b ∧ t = s.onRequest fun r => (r.checkCard p values).endBlocked r b.memory stamp := by
  cases c with
  | round => exact .inl (by simp)
  | completeCheck => exact .inl (by simp)
  | accept b tag q =>
    refine .inl ?_
    rcases s.acceptOperate_request b tag q with ⟨o, hr⟩ | hr <;> rw [hr] <;> exact fun _ h => h
  | judged reasons stamp =>
    refine .inl fun o ho => ?_
    have ho : o ∈ (s.request.judged reasons stamp).blocked := ho
    unfold RequestEngine.judged at ho
    split at ho <;> exact ho
  | readbacks b p values stamp active => exact .inr (.inr ⟨b, p, values, stamp, active, rfl⟩)
  | unblock => exact .inl fun o ho => List.mem_of_mem_filter ho
  | request r same =>
    obtain ⟨-, -, -, blocked⟩ := same
    exact .inl fun o ho => blocked ▸ ho
  | switch => exact .inr (.inl (.inl rfl))
  | restart keep => exact .inr (.inl (.inr (.inl ⟨keep, rfl⟩)))
  | powerOn straps outen link => exact .inr (.inl (.inr (.inr ⟨straps, outen, link, rfl⟩)))
  | loop | conditions | pairs | clock | pending | desk | inputs | force | release | flasher | marker | report | transfer | ends
  | outcomes | place | bringUp | standby | openCheck | checkRuns | pendSwitch => exact .inl fun _ h => h

theorem Change.keeps_outputsApart {s t : State} (c : Change i s t) (h : s.outputsApart) : t.outputsApart := by
  rw [State.outputsApart_iff] at h ⊢
  rcases c.activeMemory_cases with memory | tookUp
  · rw [State.pointOutputs_same memory]
    rcases c.requests_cases with requests | ⟨b, tag, q, -, active, passes, rfl⟩
    · rcases c.blocked_cases with blocked | tookUp | ⟨b, p, values, stamp, active, rfl⟩
      · exact h.fewer requests blocked
      · rw [tookUp.idle]
        exact apart_nil _ _
      · rw [State.onRequest_request]
        exact readbacks_apart active p values stamp h
    · exact acceptOperate_apart active passes h
  · rw [tookUp.idle]
    exact apart_nil _ _

/-- Settles O56: every small change keeps the outputs apart. -/
theorem stepsKeepOutputsApart : Obligations.StepsKeepOutputsApart := by
  intro s t h step
  obtain ⟨i, reaches⟩ := step_reaches step
  exact reaches.keeps State.outputsApart (fun _ _ c => c.keeps_outputsApart) h

end Sys2Proof.Machine
end

section
/-! The indication image (R83, R90, R91, R97): every round keeps it, and a taking up of tables builds it anew. -/

namespace Sys2Proof.Machine

variable {i : Instr}

/-! ### One object -/

/-- Object `j` of tables `m` stands as the table and its terms' current values and qualities give. -/
def ObjectState.good (m : Memory) (j : Nat) (o : ObjectState) : Prop :=
  o.terms.map TermState.source = (m.objectEntry j).terms.map TermEntry.source
    ∧ (o.terms ≠ [] → o.entry = shownEntry m (m.objectEntry j) o.terms)

/-- What an evaluation leaves of an object (R91, R93): with no term in the round it stays, with one it takes the changes and shows what
they give. -/
theorem evaluateObject_state (m : Memory) (round : List TermChange) (j : Nat) (o : ObjectState) :
    (evaluateObject m round j o).1 =
      if o.terms.any (TermState.touched round) then
        { terms := o.terms.map (TermState.take round), entry := shownEntry m (m.objectEntry j) (o.terms.map (TermState.take round)) }
      else o := by
  unfold evaluateObject
  split
  · dsimp only
    split
    · rename_i same
      rw [same]
    · split <;> rfl
  · rfl

theorem take_sources (round : List TermChange) (ts : List TermState) :
    (ts.map (TermState.take round)).map TermState.source = ts.map TermState.source := by
  simp [List.map_map, Function.comp_def]

theorem ObjectState.good.evaluate {m : Memory} {j : Nat} {o : ObjectState} (h : o.good m j) (round : List TermChange) :
    (evaluateObject m round j o).1.good m j := by
  rw [evaluateObject_state]
  split
  · exact ⟨(take_sources round o.terms).trans h.1, fun _ => rfl⟩
  · exact h

/-- An object whose every term is in the round shows afterwards what they give, whatever it showed before (R97). -/
theorem ObjectState.good_of_touched {m : Memory} {j : Nat} {o : ObjectState} {round : List TermChange}
    (sources : o.terms.map TermState.source = (m.objectEntry j).terms.map TermEntry.source)
    (touched : ∀ t ∈ o.terms, t.touched round = true) : (evaluateObject m round j o).1.good m j := by
  rw [evaluateObject_state]
  split
  · exact ⟨(take_sources round o.terms).trans sources, fun _ => rfl⟩
  · rename_i none
    refine ⟨sources, fun some => absurd ?_ none⟩
    obtain ⟨t, ht⟩ := List.exists_mem_of_ne_nil _ some
    exact List.any_eq_true.mpr ⟨t, ht, touched t ht⟩

/-! ### The image -/

/-- The image is the one of the tables `m`, if tables are active. -/
def imageOf (m : Option Memory) (objects : List ObjectState) : Prop :=
  match m with
  | none => objects = []
  | some m => objects.length = m.objectCount ∧ ∀ (j : Nat) (o : ObjectState), objects[j]? = some o → o.good m j

theorem State.imageGood_iff (s : State) : s.imageGood ↔ imageOf s.activeMemory s.evaluator.objects := by
  unfold State.imageGood State.activeMemory
  cases s.active? <;> rfl

/-- The objects after a round are those before, each evaluated by itself (R89). -/
theorem State.runRound_objects {s : State} {m : Memory} (active : s.activeMemory = some m) (round : List TermChange) :
    (s.runRound round).evaluator.objects = s.evaluator.objects.mapIdx fun j o => (evaluateObject m round j o).1 := by
  obtain ⟨b, hb, rfl⟩ := Option.map_eq_some_iff.mp active
  simp [State.runRound, hb, evaluateFrom_eq]

theorem State.runRound_idle {s : State} (idle : s.activeMemory = none) (round : List TermChange) : s.runRound round = s := by
  have : s.active? = none := by simpa [State.activeMemory] using idle
  simp [State.runRound, this]

@[simp] theorem State.runRound_activeMemory (s : State) (round : List TermChange) : (s.runRound round).activeMemory = s.activeMemory := by
  simp [State.activeMemory, State.active?]

/-- A round leaves the image good wherever it leaves each object good. -/
theorem State.runRound_imageGood {s : State} {m : Memory} (active : s.activeMemory = some m) (round : List TermChange)
    (count : s.evaluator.objects.length = m.objectCount)
    (each : ∀ (j : Nat) (o : ObjectState), s.evaluator.objects[j]? = some o → (evaluateObject m round j o).1.good m j) :
    (s.runRound round).imageGood := by
  rw [State.imageGood_iff, State.runRound_activeMemory, active, State.runRound_objects active]
  refine ⟨by simpa using count, fun j o ho => ?_⟩
  rw [List.getElem?_mapIdx, Option.map_eq_some_iff] at ho
  obtain ⟨o', ho', rfl⟩ := ho
  exact each j o' ho'

theorem runRound_keeps_imageGood {s : State} (h : s.imageGood) (round : List TermChange) : (s.runRound round).imageGood := by
  cases active : s.activeMemory with
  | none => rwa [State.runRound_idle active]
  | some m =>
    rw [State.imageGood_iff, active] at h
    exact State.runRound_imageGood active round h.1 fun j o ho => (h.2 j o ho).evaluate round

theorem afterOverrun_keeps_imageGood {s : State} (before : State) (h : s.imageGood) : (before.afterOverrun s).imageGood := by
  unfold State.afterOverrun
  split
  · refine runRound_keeps_imageGood ?_ _
    unfold Event.setCondition
    split <;> exact h
  · exact h

/-! ### The image built anew (R97) -/

theorem resetTerm_source (c : Conditions) (stamp : Stamp) (causeOf : Source → Cause) (src : Source) :
    (resetTerm c stamp causeOf src).source = src := by
  unfold resetTerm
  split <;> rfl

theorem resetObject_sources (m : Memory) (c : Conditions) (stamp : Stamp) (causeOf : Source → Cause) (j : Nat) :
    (resetObject m c stamp causeOf j).terms.map TermState.source = (m.objectEntry j).terms.map TermEntry.source := by
  simp [resetObject, List.map_map, Function.comp_def, resetTerm_source]

/-- The reset round changes every term of every object in use. -/
theorem touched_resetRoundOf {objects : List ObjectState} {o : ObjectState} (ho : o ∈ objects) {t : TermState} (ht : t ∈ o.terms) :
    t.touched (resetRoundOf objects) = true := by
  rw [TermState.touched, lastChange_isSome]
  exact ⟨_, List.mem_flatMap.mpr ⟨o, ho, List.mem_map_of_mem ht⟩, rfl⟩

theorem resetImage_imageGood {s : State} {b : Bank} (active : s.activeMemory = some b.memory) (stamp : Stamp) (causeOf : Source → Cause) :
    (s.resetImage b stamp causeOf).imageGood := by
  refine afterOverrun_keeps_imageGood _ (State.runRound_imageGood (m := b.memory) ?_ _ ?_ fun j o ho => ?_)
  · exact active
  · simp
  · refine ObjectState.good_of_touched ?_ fun t ht => touched_resetRoundOf (List.mem_of_getElem? ho) ht
    dsimp only at ho
    rw [List.getElem?_map, Option.map_eq_some_iff] at ho
    obtain ⟨k, hk, rfl⟩ := ho
    obtain ⟨-, rfl⟩ := List.getElem?_eq_some_iff.mp hk
    simpa using resetObject_sources b.memory s.evaluator.conditions stamp causeOf j

theorem State.imageGood_of_idle {s : State} (idle : s.active? = none) (empty : s.evaluator.objects = []) : s.imageGood := by
  rw [State.imageGood_iff, State.activeMemory, idle]
  exact empty

theorem switchEffect_imageGood (s : State) : s.switchEffect.imageGood := by
  rw [s.switchEffect_eq]
  refine resetImage_imageGood ?_ _ _
  have active := s.switchEffect_active
  rw [s.switchEffect_eq] at active
  simpa [State.activeMemory, State.active?] using congrArg (Option.map Bank.memory) active

theorem restart_imageGood (s : State) (keep : Bool) : (s.restart keep).imageGood := by
  rcases s.restart_cases keep with ⟨b, rfl, active, h⟩ | ⟨idle, h⟩
  · have kept := congrArg (Option.map Bank.memory) (State.restart_active_kept active)
    rw [h] at kept ⊢
    refine resetImage_imageGood ?_ _ _
    simpa [State.restartOn, State.activeMemory, State.active?, Bank.abandonCheck_memory] using kept
  · exact State.imageGood_of_idle (State.restart_active_none idle).2 (by rw [h]; rfl)

theorem Change.keeps_imageGood {s t : State} (c : Change i s t) (h : s.imageGood) : t.imageGood := by
  have same (memory : t.activeMemory = s.activeMemory) (objects : t.evaluator.objects = s.evaluator.objects) : t.imageGood := by
    rwa [State.imageGood_iff, memory, objects, ← State.imageGood_iff]
  rcases c.activeMemory_cases with memory | rfl | ⟨keep, rfl⟩ | ⟨_, _, _, rfl⟩
  · cases c with
    | round round => exact runRound_keeps_imageGood h round
    | accept => exact same memory (by simp)
    | readbacks => exact same memory (by simp)
    | completeCheck => exact same memory (by simp)
    | switch => exact switchEffect_imageGood _
    | restart keep => exact restart_imageGood _ keep
    | powerOn => exact State.imageGood_of_idle rfl rfl
    | loop | conditions | pairs | clock | pending | desk | inputs | force | release | flasher | marker | report | transfer | ends | judged
    | outcomes | place | bringUp | unblock | request | standby | openCheck | checkRuns | pendSwitch => exact same memory rfl
  · exact switchEffect_imageGood s
  · exact restart_imageGood s keep
  · exact State.imageGood_of_idle rfl rfl

/-- Settles O57: every small change keeps the image. -/
theorem stepsKeepTheImage : Obligations.StepsKeepTheImage := by
  intro s t h step
  obtain ⟨i, reaches⟩ := step_reaches step
  exact reaches.keeps State.imageGood (fun _ _ c => c.keeps_imageGood) h

/-- Settles O58: right after reset every queue and list is empty and no bank is active. -/
theorem resetMeetsTheInvariants : Obligations.ResetMeetsTheInvariants := by
  have idle : State.reset.active? = none := rfl
  refine ⟨Nat.zero_le 4, ⟨Nat.le_of_ble_eq_true rfl, fun _ => ⟨rfl, rfl, rfl⟩⟩, forcedListGood_of_empty rfl,
    State.reset.positionsGood_iff.mpr LoopController.reset_good, TableStore.good_reset, State.periodGood_of_idle idle,
    RequestEngine.placesGood_of_empty rfl rfl, State.reset.authorityGood_iff.mpr fun _ => rfl, ?_, State.imageGood_of_idle idle rfl⟩
  rw [State.outputsApart_iff]
  exact apart_nil _ _

end Sys2Proof.Machine
end

section
/-! The step (log entry 4), power-on, reset and restart (R172, R173), and the pins (R118, R120, R162). -/

namespace Sys2Proof.Machine

/-! ### The step -/

/-- Settles O1. -/
theorem stepRunsFrontCommand : Obligations.StepRunsFrontCommand := by
  intro s c rest waiting
  simp only [step, waiting]

/-- The events that fall due wait each once, whatever the order (log entry 4). -/
theorem arrange_perm (fuel n : Nat) (xs : List Instr) : (arrange fuel n xs).Perm xs := by
  induction fuel generalizing n xs with
  | zero => match xs with
    | [] => exact .refl _
    | [_] => exact .refl _
    | _ :: _ :: _ => exact .refl _
  | succ fuel ih => match xs with
    | [] => exact .refl _
    | [_] => exact .refl _
    | x :: y :: rest =>
      have inside : n % (x :: y :: rest).length < (x :: y :: rest).length := Nat.mod_lt _ (by simp)
      rw [arrange, List.getD_eq_getElem _ _ inside]
      exact ((ih _ _).cons _).trans (List.getElem_cons_eraseIdx_perm inside)

/-- Settles O2. -/
theorem millisecondPasses : Obligations.MillisecondPasses := by
  intro s empty
  refine ⟨s.tick, by simp only [step, empty], rfl, rfl, rfl, ?_, rfl⟩
  have waits : s.tick.pending = s.pending ++ arrange 8 (Config.eventOrder s.advance.clock.own) s.advance.due := rfl
  rw [waits, empty]
  exact arrange_perm _ _ _

/-! ### Power-on, reset, restart (R172, R173) -/

/-- The straps fill the low byte of the own address (R174). -/
theorem ownAddressOf_toNat (straps : Byte) : (ownAddressOf straps).toNat = 0x024F50540000 + straps.toNat := by
  have low : straps.toNat < 2 ^ 8 := straps.isLt
  have disjoint := Nat.two_pow_add_eq_or_of_lt low 0x024F505400
  rw [ownAddressOf, BitVec.toNat_or, BitVec.toNat_setWidth, Nat.mod_eq_of_lt (by omega)]
  exact disjoint.symm

/-- Settles O3. -/
theorem powerOnValues : Obligations.PowerOnValues := by
  intro straps outen link s
  refine ⟨s.powerOn straps outen link, rfl, rfl, rfl, rfl, rfl, rfl, rfl, rfl, rfl, rfl, rfl, rfl, rfl, rfl,
    rfl, rfl, rfl, rfl, rfl, rfl, rfl, rfl, rfl, rfl, rfl, rfl, rfl, ownAddressOf_toNat straps, rfl⟩

/-- With no bank active the reasons against authority are those after a power-on, and OUTEN_LOW as the pin stands (R121, R139). -/
theorem State.restartIdle_request (s : State) {keep : Bool} (idle : keep = false ∨ s.active? = none) :
    (s.restartIdle keep).request =
      { RequestEngine.reset with outen := s.request.outen, reasons := ⟨true, true, true, true, false, !s.request.outen⟩ } := by
  have selection : (s.tables.restart keep).selection = none := by
    cases keep with
    | false => rfl
    | true => exact s.active_eq_none_iff.mp (by simpa using idle)
  simp [State.restartIdle, State.takeReasons, State.reasonSet, State.active?, selection, RequestEngine.restart, LoopController.restart,
    LoopController.reset, RequestEngine.reset, Reasons.isEmpty, State.onRequest]

theorem State.restart_idle {s : State} {keep : Bool} (idle : keep = false ∨ s.active? = none) : s.restart keep = s.restartIdle keep := by
  rcases idle with rfl | none
  · rfl
  · cases keep <;> simp [State.restart, none]

/-- Settles O4. -/
theorem resetPinValues : Obligations.ResetPinValues := by
  intro s
  have request := State.restartIdle_request { s with report := { s.report with timeBase := 0, timeValid := false } } (keep := false) (.inl rfl)
  refine ⟨s.resetPin, rfl, rfl, rfl, rfl, rfl, rfl, rfl, rfl, rfl, request, ?_, ?_, ?_, ?_, rfl, rfl, rfl⟩ <;>
    exact congrArg _ request

theorem TableStore.restart_bank_state (t : TableStore) (n : BankName) :
    (t.restart true).bank n = if (t.bank n).state = .checking then { t.bank n with state := .loading } else t.bank n := by
  rw [TableStore.restart_bank, Bank.abandonCheck]
  split
  · rename_i checking
    rw [if_pos checking]
  · rename_i other
    rw [if_neg other]

/-- A well-formed RESTART from a sender with MAINTAIN rights: the reply first, then the restart (R172). -/
theorem exec_restart_offers {s : State} {x : RxMessage} {rest : List RxMessage} {keep : Bool} (offered : s.offers x rest 0x05)
    (rights : s.rightsOf x.source = .maintain) (content : x.content = [if keep then 1 else 0]) :
    exec .restart s = .next (((s.afterTaking rest).repliedTo x 0x05 .ok []).restart keep) := by
  have form : restartForm x.content = true := by cases keep <;> rw [content] <;> rfl
  have flag : decide (byteAt x.taken.content 0 = 1) = keep := by rw [RxMessage.taken_content, content]; cases keep <;> rfl
  show Host.Outcome.next _ = _
  rw [s.management_taken x rest 0x05 _ _ _ offered (by simp [rights, Rights.allowMaintain]) form, flag]
  rfl

/-- Settles O5. -/
theorem restartWithoutTables : Obligations.RestartWithoutTables := by
  intro s x rest keep offered rights content
  have flag : x.content = [if keep then 1 else 0] := by
    rcases content with ⟨rfl, content⟩ | ⟨rfl, content, -⟩ <;> exact content
  have idle : keep = false ∨ s.active? = none := by
    rcases content with ⟨rfl, -⟩ | ⟨-, -, idle⟩
    · exact .inl rfl
    · exact .inr idle
  have request := State.restartIdle_request ((s.afterTaking rest).repliedTo x 0x05 .ok []) (keep := keep) idle
  refine ⟨((s.afterTaking rest).repliedTo x 0x05 .ok []).restartIdle keep, ?_, rfl, rfl, ?_, ?_, rfl, rfl, rfl, rfl, rfl, rfl, rfl, request,
    congrArg RequestEngine.authority request, congrArg RequestEngine.slots request, congrArg RequestEngine.outcomes request, rfl, rfl⟩
  · rw [exec_restart_offers offered rights flag, State.restart_idle (s := (s.afterTaking rest).repliedTo x 0x05 .ok []) idle]
  · rintro rfl
    rfl
  · rintro rfl
    exact ⟨s.active_eq_none_iff.mp (by simpa using idle), rfl, rfl, s.tables.restart_bank_state⟩

/-! ### The pins and the PHY (R118, R120, R162) -/

/-- A round leaves the conditions of authority as they were. -/
theorem Event.close_reasonSet (e : Event) : e.close.reasonSet = e.st.reasonSet := by
  simp [State.reasonSet, State.active?]

/-- OUTEN_CHANGE before authority is judged: the pin is noted and condition 4 handed on (R120). -/
def State.outenNoted (s : State) (high : Bool) : Event :=
  ((Event.start s).onState fun s => s.onRequest fun r => { r with outen := high }).setCondition 4 high s.now

section
variable (s : State) (high : Bool)

@[simp] theorem State.outenNoted_request : (s.outenNoted high).st.request = { s.request with outen := high } := by
  simp [State.outenNoted, Event.onState, Event.start]

theorem State.outenNoted_condition : (s.outenNoted high).st.evaluator.conditions.get 4 = high :=
  Event.setCondition_get _ _ _ _ (by decide)

theorem State.outenNoted_outenLow : (s.outenNoted high).st.reasonSet.outenLow = !high := by
  simp [State.reasonSet]

end

/-- Settles O7: the judgement of authority decides the request engine, and its round leaves that alone. -/
theorem linkAndOutenAreFollowed : Obligations.LinkAndOutenAreFollowed := by
  refine ⟨fun _ _ => rfl, fun s high => ⟨((s.outenNoted high).judgeAuthority s.now).close, rfl, ?_⟩⟩
  have condition : ((s.outenNoted high).judgeAuthority s.now).close.evaluator.conditions.get 4 = high := by
    rw [Event.close_condition _ _ (by decide), Event.judgeAuthority_condition _ _ _ (by decide), s.outenNoted_condition]
  obtain ⟨reasons, authority⟩ := (s.outenNoted high).judgeAuthority_request s.now
  have outen := congrArg RequestEngine.outen ((s.outenNoted high).judgeAuthority_frame s.now)
  rw [Event.close_reasonSet, Event.close_request, Event.judgeAuthority_reasonSet]
  refine ⟨by simpa using outen, condition, reasons, authority, ?_, fun before => ?_, fun holds => ?_, ?_⟩
  · rw [reasons, s.outenNoted_outenLow]
  · exact Event.judgeAuthority_occupied _ _ (by rw [State.outenNoted_request]; exact before)
  · simpa using Event.judgeAuthority_keeps _ _ holds
  · simp [State.outenNoted, Event.onState, Event.start]

end Sys2Proof.Machine
end

section
/-! RESTART with keep-tables on an active bank (R172): what each block starts on. -/

namespace Sys2Proof.Machine

/-! ### A filter and pairs newly started (R51, R52, R81) -/

theorem keyedGet_mem {α : Type} {k : Nat} {xs : List (Nat × α)} {x : α} (h : keyedGet k xs = some x) : (k, x) ∈ xs := by
  induction xs with
  | nil => exact nomatch h
  | cons y ys ih =>
    obtain ⟨j, y⟩ := y
    unfold keyedGet at h
    split at h
    · rename_i same
      obtain rfl := same
      obtain rfl := Option.some.inj h
      exact List.mem_cons_self
    · exact List.mem_cons_of_mem _ (ih h)

/-- Every input is UNKNOWN and none is forced on a filter newly started (R51, R52). -/
theorem ContactFilter.startOn_inputs (m : Memory) : ∀ y ∈ (ContactFilter.startOn m).inputs, y.2 = InputState.start := by
  intro y hy
  simp only [ContactFilter.startOn, List.mem_map] at hy
  obtain ⟨k, -, rfl⟩ := hy
  rfl

theorem ContactFilter.startOn_presented (m : Memory) (k : Nat) : (ContactFilter.startOn m).presented k = (none, .unknown) := by
  unfold ContactFilter.presented
  split
  · rename_i st h
    obtain rfl : st = InputState.start := ContactFilter.startOn_inputs m _ (keyedGet_mem h)
    rfl
  · rfl

/-- Every pair is UNKNOWN when the pair unit newly starts (R81). -/
theorem startPairs_unknown (m : Memory) (t : Stamp) : ∀ y ∈ startPairs m t, y.2 = PairRecord.start t := by
  intro y hy
  obtain ⟨k, -, rfl⟩ := List.mem_map.mp hy
  rfl

/-- FLASHER_OK once a filter has newly started: 1 with no reference input alone (R67). -/
theorem State.flasherOk_of_startOn {s : State} {b : Bank} {m : Memory} (active : s.active? = some b)
    (filter : s.filter = ContactFilter.startOn m) : s.flasherOk = true ↔ b.memory.reference? = none := by
  simp only [State.flasherOk, active, Option.bind_some, filter, ContactFilter.startOn_presented]
  cases b.memory.reference? <;> simp

/-! ### Proof sources newly taken (R123) -/

theorem Memory.proofSources_unknown (m : Memory) : ∀ ps ∈ m.proofSources, ps.value = none ∧ ps.quality = .unknown := by
  intro ps h
  obtain ⟨src, -, rfl⟩ := List.mem_map.mp h
  exact ⟨rfl, rfl⟩

theorem Memory.proofSources_complete (m : Memory) {q : Nat} {src : Source} (inRange : q < 256) (defined : m.defined q = true)
    (source : m.proofSource? q = some src) : ∃ ps ∈ m.proofSources, ps.source = src := by
  refine ⟨{ source := src, value := none, quality := .unknown }, List.mem_map.mpr ⟨src, ?_, rfl⟩, rfl⟩
  exact List.mem_dedup.mpr (List.mem_filterMap.mpr ⟨q, List.mem_filter.mpr ⟨List.mem_range.mpr inRange, defined⟩, source⟩)

/-! ### QUEUE_NORMAL at the end of a round (R108) -/

theorem ReportUnit.takeChange_overrun {r : ReportUnit} (h : r.queueState = .overrun) (limit : Nat) (m : Record) (t : Stamp) :
    (r.takeChange limit m t).queueState = .overrun := by
  simp [ReportUnit.takeChange, h]

theorem ReportUnit.takeChanges_overrun {r : ReportUnit} (h : r.queueState = .overrun) (limit : Nat) (ms : List Record) :
    (r.takeChanges limit ms).queueState = .overrun := by
  unfold ReportUnit.takeChanges
  induction ms generalizing r with
  | nil => exact h
  | cons m ms ih => exact ih (ReportUnit.takeChange_overrun h limit m m.stamp)

theorem State.runRound_overrun {s : State} (h : s.report.queueState = .overrun) (round : List TermChange) :
    (s.runRound round).report.queueState = .overrun := by
  unfold State.runRound
  split
  · exact h
  · exact ReportUnit.takeChanges_overrun h _ _

/-- QUEUE_NORMAL says whether the queue is NORMAL. -/
def State.queueNormalGood (s : State) : Prop := s.evaluator.conditions.queueNormal = true ↔ s.report.queueState = .normal

theorem State.finishRound_queueNormalGood {s : State} (h : s.queueNormalGood) (round : List TermChange) :
    (s.finishRound round).queueNormalGood := by
  unfold State.finishRound State.afterOverrun
  split
  · rename_i entered
    have off : ((Event.start (s.runRound round)).setCondition 3 false (s.runRound round).now).st.evaluator.conditions.get 3 = false :=
      Event.setCondition_get _ _ _ _ (by decide)
    have overrun : ((Event.start (s.runRound round)).setCondition 3 false (s.runRound round).now).st.report.queueState = .overrun := by
      simpa [Event.start] using entered.2
    generalize (Event.start (s.runRound round)).setCondition 3 false (s.runRound round).now = e at off overrun ⊢
    have off' : e.st.evaluator.conditions.queueNormal = false := off
    simp [State.queueNormalGood, off', State.runRound_overrun overrun]
  · rename_i stayed
    unfold State.queueNormalGood at h ⊢
    rw [State.runRound_conditions, h]
    constructor
    · intro normal
      cases after : (s.runRound round).report.queueState with
      | normal => rfl
      | overrun => exact absurd ⟨normal, after⟩ stayed
    · intro normal
      cases before : s.report.queueState with
      | normal => rfl
      | overrun => exact absurd (normal.symm.trans (State.runRound_overrun before round)) (by decide)

/-! ### The restart on an active bank -/

section
variable (s : State)

/-! The conditions as their owners leave them (R97, R98) -/

@[simp] theorem State.settleConditions_active : s.settleConditions.active? = s.active? := rfl
theorem State.settleConditions_loopRunning : s.settleConditions.evaluator.conditions.loopRunning = s.settleConditions.loopRunning := rfl
theorem State.settleConditions_authority : s.settleConditions.evaluator.conditions.authority = s.request.authority := rfl
theorem State.settleConditions_flasherOk : s.settleConditions.evaluator.conditions.flasherOk = s.settleConditions.flasherOk := rfl
theorem State.settleConditions_outputsHealthy : s.settleConditions.evaluator.conditions.outputsHealthy = true := rfl
theorem State.settleConditions_cardsHealthy : s.settleConditions.evaluator.conditions.cardsHealthy = s.settleConditions.cardsHealthy := rfl
theorem State.settleConditions_outen : s.settleConditions.evaluator.conditions.outen = s.evaluator.conditions.outen := rfl
theorem State.settleConditions_timeValid : s.settleConditions.evaluator.conditions.timeValid = s.evaluator.conditions.timeValid := rfl

end

/-- The restart values of each block but the conditions that their owners hand on (R172). -/
def State.restartValues (s : State) (b : Bank) : State :=
  { s with
    loop := s.loop.restart (some b.memory.sweepPeriod), filter := ContactFilter.startOn b.memory, flasher := FlasherMonitor.startOn b,
    pairs := startPairs b.memory s.now,
    evaluator := { conditions := Conditions.afterRestart s.request.outen s.report.timeValid, objects := [] },
    report := s.report.restart true (some b.memory.reportPeriod), request := s.request.restart (some b),
    tables := s.tables.restart true, desk := s.desk.restart }

/-- The part at a restart on bank `b` before its image is built anew. -/
def State.restarted (s : State) (b : Bank) : State := (s.restartValues b).takeReasons.settleConditions

section
variable (s : State) (b : Bank)

theorem State.restartOn_eq : s.restartOn b = (s.restarted b).resetImage b s.now Source.restartCause := rfl

theorem State.restarted_loop : (s.restarted b).loop = s.loop.restart (some b.memory.sweepPeriod) := rfl
theorem State.restarted_filter : (s.restarted b).filter = ContactFilter.startOn b.memory := by simp [State.restarted, State.restartValues]
theorem State.restarted_pairs : (s.restarted b).pairs = startPairs b.memory s.now := by simp [State.restarted, State.restartValues]
theorem State.restarted_flasher : (s.restarted b).flasher = FlasherMonitor.startOn b := rfl
theorem State.restarted_report : (s.restarted b).report = s.report.restart true (some b.memory.reportPeriod) := rfl

theorem State.restartOn_loop : (s.restartOn b).loop = s.loop.restart (some b.memory.sweepPeriod) := by
  rw [s.restartOn_eq, State.resetImage_loop, s.restarted_loop]
theorem State.restartOn_filter : (s.restartOn b).filter = ContactFilter.startOn b.memory := by
  rw [s.restartOn_eq, State.resetImage_filter, s.restarted_filter]
theorem State.restartOn_pairs : (s.restartOn b).pairs = startPairs b.memory s.now := by
  rw [s.restartOn_eq, State.resetImage_pairs, s.restarted_pairs]
theorem State.restartOn_flasher : (s.restartOn b).flasher = FlasherMonitor.startOn b := by
  rw [s.restartOn_eq, State.resetImage_flasher, s.restarted_flasher]

/-- The reset round leaves the report unit but its queue at the restart values (R117). -/
theorem State.restartOn_report :
    (s.restartOn b).report.timeBase = s.report.timeBase ∧ (s.restartOn b).report.timeValid = s.report.timeValid
      ∧ (s.restartOn b).report.frameSequence = 0 ∧ (s.restartOn b).report.slicePointer = 0
      ∧ (s.restartOn b).report.timer = some b.memory.reportPeriod := by
  rw [s.restartOn_eq]
  simp [s.restarted_report, ReportUnit.restart, ReportUnit.reset]

theorem State.restartOn_condition (n : Nat) (other : n ≠ 3) :
    (s.restartOn b).evaluator.conditions.get n = (s.restarted b).evaluator.conditions.get n := by
  rw [State.restartOn_eq, State.resetImage, State.finishRound_condition _ _ _ other]

theorem State.restartOn_queueNormalGood : (s.restartOn b).queueNormalGood := by
  refine State.finishRound_queueNormalGood ?_ _
  exact iff_of_true rfl rfl

theorem State.restartOn_marker : (s.restartOn b).report.queue.head? = some (.restart s.report.timeBase true) := by
  obtain ⟨behind, queue⟩ := State.finishRound_prefix (s := { s.restarted b with evaluator := { (s.restarted b).evaluator with
      objects := (List.range b.memory.objectCount).map (resetObject b.memory (s.restarted b).evaluator.conditions s.now Source.restartCause) } })
    (resetRoundOf ((List.range b.memory.objectCount).map
      (resetObject b.memory (s.restarted b).evaluator.conditions s.now Source.restartCause)))
  rw [State.restartOn_eq, State.resetImage, ← queue]
  rfl

/-- The reasons against authority after a restart on the active bank (R121, R139). -/
theorem State.restartOn_request {s : State} {b : Bank} (active : s.active? = some b) :
    (s.restartOn b).request =
      { RequestEngine.reset with
        outen := s.request.outen, reasons := ⟨false, true, true, true, false, !s.request.outen⟩,
        changeover := some (.unknown, .unknown), proofs := b.memory.proofSources } := by
  have bank : s.tables.selection.isNone = false := by
    cases selected : s.tables.selection with
    | none => simp [State.active?, selected] at active
    | some n => rfl
  rw [State.restartOn_eq, State.resetImage_request]
  simp [State.restarted, State.restartValues, State.takeReasons, State.reasonSet, State.active?, TableStore.restart, bank, RequestEngine.restart,
    LoopController.restart, RequestEngine.reset, Reasons.isEmpty, State.onRequest]

theorem State.restart_of_active {s : State} {b : Bank} (active : s.active? = some b) : s.restart true = s.restartOn b := by
  simp [State.restart, active]

/-- The bank stays active over a restart, with its tables (R160). -/
theorem State.restarted_active {s : State} {b : Bank} (active : s.active? = some b) : (s.restarted b).active? = some b.abandonCheck := by
  have kept := State.restart_active_kept active
  rw [State.restart_of_active active, s.restartOn_eq, State.resetImage_active] at kept
  exact kept

/-- No card is in order right after a restart; CARDS_HEALTHY is 1 with no card expected alone (R23, R87). -/
theorem State.restarted_cardsHealthy {s : State} {b : Bank} (active : s.active? = some b) :
    (s.restarted b).cardsHealthy = true ↔ ∀ p, p < 32 → b.memory.expectedType p = 0 := by
  have judged (p : Nat) (hp : p < 32) : ((s.restarted b).loop.position p).judged = .notExpected := by
    show ((List.replicate 32 PositionRecord.reset).getD p PositionRecord.reset).judged = .notExpected
    rw [List.getD_replicate _ hp]
    rfl
  simp only [State.cardsHealthy, State.restarted_active active, Bank.abandonCheck_memory, List.all_eq_true, List.mem_range]
  refine forall_congr' fun p => forall_congr' fun hp => ?_
  simp [judged p hp, Memory.expected]

theorem State.restarted_flasherOk {s : State} {b : Bank} (active : s.active? = some b) :
    (s.restarted b).flasherOk = true ↔ b.memory.reference? = none := by
  rw [State.flasherOk_of_startOn (State.restarted_active active) (s.restarted_filter b), Bank.abandonCheck_memory]

theorem State.restarted_authority {s : State} {b : Bank} (active : s.active? = some b) : (s.restarted b).request.authority = false := by
  have request := congrArg RequestEngine.authority (State.restartOn_request active)
  rwa [s.restartOn_eq, State.resetImage_request] at request

/-- The conditions after a restart on the active bank (R98). -/
theorem State.restartOn_conditions {s : State} {b : Bank} (active : s.active? = some b) :
    (s.restartOn b).evaluator.conditions.loopRunning = false ∧ (s.restartOn b).evaluator.conditions.authority = false
      ∧ ((s.restartOn b).evaluator.conditions.flasherOk = true ↔ b.memory.reference? = none)
      ∧ (s.restartOn b).evaluator.conditions.outen = s.request.outen ∧ (s.restartOn b).evaluator.conditions.outputsHealthy = true
      ∧ (s.restartOn b).evaluator.conditions.timeValid = s.report.timeValid
      ∧ ((s.restartOn b).evaluator.conditions.cardsHealthy = true ↔ ∀ p, p < 32 → b.memory.expectedType p = 0) := by
  have condition := s.restartOn_condition b
  have authority : (s.restartOn b).evaluator.conditions.authority = (s.restarted b).request.authority := condition 1 (by decide)
  have flasherOk : (s.restartOn b).evaluator.conditions.flasherOk = (s.restarted b).flasherOk :=
    (condition 2 (by decide)).trans (s.restartValues b).takeReasons.settleConditions_flasherOk
  have cardsHealthy : (s.restartOn b).evaluator.conditions.cardsHealthy = (s.restarted b).cardsHealthy :=
    (condition 7 (by decide)).trans (s.restartValues b).takeReasons.settleConditions_cardsHealthy
  rw [authority, flasherOk, cardsHealthy]
  exact ⟨condition 0 (by decide), State.restarted_authority active, State.restarted_flasherOk active, condition 4 (by decide),
    condition 5 (by decide), condition 6 (by decide), State.restarted_cardsHealthy active⟩

end

/-- Settles O6: the blocks start on the active bank, and the reset round leaves all but the image, the queue and QUEUE_NORMAL alone. -/
theorem restartWithTables : Obligations.RestartWithTables := by
  intro s b x rest offered rights content active
  have answered : ((s.afterTaking rest).repliedTo x 0x05 .ok []).active? = some b := active
  have step : exec .restart s = .next (((s.afterTaking rest).repliedTo x 0x05 .ok []).restartOn b) := by
    rw [exec_restart_offers (keep := true) offered rights content, State.restart_of_active answered]
  obtain ⟨running, authority, flasherOk, outen, outputs, timeValid, cards⟩ := State.restartOn_conditions answered
  obtain ⟨timeBase, valid, sequence, slice, timer⟩ := State.restartOn_report ((s.afterTaking rest).repliedTo x 0x05 .ok []) b
  have tables := State.restart_tables ((s.afterTaking rest).repliedTo x 0x05 .ok []) true
  have clock := State.restart_clock ((s.afterTaking rest).repliedTo x 0x05 .ok []) true
  have desk := State.restart_desk ((s.afterTaking rest).repliedTo x 0x05 .ok []) true
  have pending := State.restart_pending ((s.afterTaking rest).repliedTo x 0x05 .ok []) true
  rw [State.restart_of_active answered] at tables clock desk pending
  refine ⟨_, step, ?_⟩
  rw [tables, State.restartOn_loop, State.restartOn_filter, State.restartOn_pairs, State.restartOn_flasher,
    State.restartOn_request answered, clock, desk, pending]
  refine ⟨rfl, s.tables.bankA.abandonCheck_memory, s.tables.bankB.abandonCheck_memory, rfl, rfl, s.tables.restart_bank_state, rfl, rfl, rfl,
    rfl, rfl, rfl, fun y hy => ?_, fun y hy => ?_, rfl, rfl, rfl, rfl, rfl, rfl, rfl, fun _ => rfl, b.memory.proofSources_unknown,
    fun q src => b.memory.proofSources_complete, running, authority, flasherOk, State.restartOn_queueNormalGood _ b, outen, outputs,
    timeValid, cards, timeBase, valid, sequence, slice, timer, State.restartOn_marker _ b, rfl, rfl, rfl⟩
  · rw [ContactFilter.startOn_inputs b.memory y hy]
    rfl
  · rw [startPairs_unknown _ _ y hy]
    exact ⟨rfl, rfl⟩

end Sys2Proof.Machine
end

section
/-! The desk's requests to the loop controller, the contact filter and the flasher monitor (R20, R21, R48 to R50, R63). -/

namespace Sys2Proof.Machine

/-! ### What every such request shares -/

/-- A well-formed management request whose owner answers BUSY during a check comes to its rule with no check in progress (R168). -/
theorem State.management_unchecked {s : State} {x : RxMessage} {rest : List RxMessage} {kind : Byte} {allowed : Rights → Bool}
    {form : List Byte → Bool} (rule : State → Taken → State) (offered : s.offers x rest kind)
    (rights : allowed (s.rightsOf x.source) = true) (unchecked : s.checking = false) (formed : form x.content = true) :
    s.management kind allowed form (fun s x => s.unlessChecking x kind rule) = rule (s.afterTaking rest) x.taken := by
  rw [s.management_taken x rest kind _ _ _ offered rights formed, State.unlessChecking, State.afterTaking_checking, unchecked]
  rfl

@[simp] theorem State.afterTaking_flasher (s : State) (rest : List RxMessage) : (s.afterTaking rest).flasher = s.flasher := rfl
@[simp] theorem State.afterTaking_clock (s : State) (rest : List RxMessage) : (s.afterTaking rest).clock = s.clock := rfl
@[simp] theorem State.afterTaking_pending (s : State) (rest : List RxMessage) : (s.afterTaking rest).pending = s.pending := rfl

theorem Rights.allowMaintain_of_maintain {r : Rights} (h : r = .maintain) : r.allowMaintain = true := by simp [h, Rights.allowMaintain]

theorem fieldAt_byte (v : Byte) (rest : List Byte) : fieldAt (v :: rest) 0 1 = v.toNat := by simp [fieldAt, beNat]
theorem fieldAt_second_byte (u v : Byte) (rest : List Byte) : fieldAt (u :: v :: rest) 1 1 = v.toNat := by simp [fieldAt, beNat]
theorem fieldAt_two_bytes (hi lo : Byte) (rest : List Byte) : fieldAt (hi :: lo :: rest) 0 2 = 256 * hi.toNat + lo.toNat := by
  simp [fieldAt, beNat, Nat.mul_comm]

/-! ### RESURVEY and READMIT_CARD (R20, R21) -/

/-- Settles O14. -/
theorem surveyRequestsWait : Obligations.SurveyRequestsWait := by
  intro s x rest rights unchecked
  have allowed := Rights.allowMaintain_of_maintain rights
  refine ⟨fun offered content => ?_, fun p offered content => ?_⟩
  · show Host.Outcome.next _ = _
    rw [State.management_unchecked _ offered allowed unchecked (by simp [exactly, content])]
    simp only [State.afterTaking_active, Option.isNone_iff_eq_none, State.refuse_taken, State.answer_taken]
    rfl
  · show Host.Outcome.next _ = _
    rw [State.management_unchecked _ offered allowed unchecked (by simp [exactly, content])]
    simp only [State.afterTaking_active, Option.isNone_iff_eq_none, State.refuse_taken, State.answer_taken, RxMessage.taken_content,
      content, fieldAt_byte, State.afterTaking_loop]
    rfl

/-! ### MEASURE_FLASHER (R63, R66) -/

/-- A one-shot measurement begins, or is abandoned at once (R63, R66). -/
theorem FlasherMonitor.measure_oneShot (f : FlasherMonitor) (unknown : Bool) :
    f.measure .oneShot unknown =
      if unknown ∨ f.stopped = true then
        { f with measuring := false, abandoned := true, cycles := 0, readSum := 0, anchored := false }
      else { f with measuring := true, abandoned := false, cycles := 0, readSum := 0, anchored := false } := by
  simp only [FlasherMonitor.measure, Bool.or_eq_true]
  split <;> rfl

/-- Settles O22. -/
theorem measureFlasherBegins : Obligations.MeasureFlasherBegins := by
  refine ⟨fun s b x rest offered rights unchecked active content => ?_, fun s x rest offered rights unchecked content idle => ?_⟩
  · have step : exec .measureFlasher s = .next
        (if b.memory.flasherMode ≠ .oneShot then (s.afterTaking rest).repliedTo x 0x25 .wrongMode []
        else if s.flasher.measuring then (s.afterTaking rest).repliedTo x 0x25 .busy []
        else State.repliedTo { s.afterTaking rest with flasher := s.flasher.measure .oneShot (s.referenceUnknown b) } x 0x25 .ok []) := by
      show Host.Outcome.next _ = _
      rw [State.management_unchecked _ offered (Rights.allowMaintain_of_maintain rights) unchecked (by simp [exactly, content])]
      simp only [State.afterTaking_active, active, State.refuse_taken, State.answer_taken]
      rfl
    refine ⟨fun other => ?_, fun oneShot measuring => ?_, fun oneShot idle => ?_⟩
    · rw [step, if_pos other]
    · rw [step, if_neg (not_not.mpr oneShot), if_pos measuring]
    · refine ⟨_, step, ?_⟩
      rw [if_neg (not_not.mpr oneShot), if_neg (by simp [idle])]
      exact ⟨s.flasher.measure_oneShot _, rfl⟩
  · show Host.Outcome.next _ = _
    rw [State.management_unchecked _ offered (Rights.allowMaintain_of_maintain rights) unchecked (by simp [exactly, content])]
    simp only [State.afterTaking_active, idle, State.refuse_taken]

/-! ### FORCE_INPUT (R47, R48, R50) -/

/-- The change that a force or a release shows leaves everything but the request engine, the pairs, the image and the report unit. -/
theorem State.presentForced_frame (s : State) (b : Bank) (k : Nat) (before : Option Settled × Quality) :
    { s.presentForced b k before with pairs := s.pairs, evaluator := s.evaluator, report := s.report, request := s.request } = s := by
  unfold State.presentForced
  dsimp only
  split
  · rfl
  · simp [Event.start]

section
variable (s : State) (b : Bank) (k : Nat) (before : Option Settled × Quality)

@[simp] theorem State.presentForced_loop : (s.presentForced b k before).loop = s.loop :=
  (congrArg State.loop (s.presentForced_frame b k before) :)
@[simp] theorem State.presentForced_filter : (s.presentForced b k before).filter = s.filter :=
  (congrArg State.filter (s.presentForced_frame b k before) :)
@[simp] theorem State.presentForced_flasher : (s.presentForced b k before).flasher = s.flasher :=
  (congrArg State.flasher (s.presentForced_frame b k before) :)
@[simp] theorem State.presentForced_tables : (s.presentForced b k before).tables = s.tables :=
  (congrArg State.tables (s.presentForced_frame b k before) :)
@[simp] theorem State.presentForced_desk : (s.presentForced b k before).desk = s.desk :=
  (congrArg State.desk (s.presentForced_frame b k before) :)
@[simp] theorem State.presentForced_clock : (s.presentForced b k before).clock = s.clock :=
  (congrArg State.clock (s.presentForced_frame b k before) :)
@[simp] theorem State.presentForced_pending : (s.presentForced b k before).pending = s.pending :=
  (congrArg State.pending (s.presentForced_frame b k before) :)

end

theorem keyedFind_forceIn (k : Nat) (v : ContactValue) (xs : List (Nat × ContactValue)) (j : Nat) :
    ContactFilter.presentedOf.keyedFind j (forceIn k v xs) = if j = k then some v else ContactFilter.presentedOf.keyedFind j xs := by
  induction xs with
  | nil => simp [forceIn, ContactFilter.presentedOf.keyedFind, eq_comm]
  | cons y ys ih =>
    obtain ⟨k', w⟩ := y
    by_cases same : k' = k
    · subst same
      by_cases hj : j = k'
      · simp [forceIn, ContactFilter.presentedOf.keyedFind, hj]
      · simp [forceIn, ContactFilter.presentedOf.keyedFind, hj, Ne.symm hj]
    · by_cases hj : k' = j
      · subst hj
        simp [forceIn, ContactFilter.presentedOf.keyedFind, same]
      · simp [forceIn, ContactFilter.presentedOf.keyedFind, same, hj, ih]

theorem mem_forceIn (k : Nat) (v : ContactValue) (xs : List (Nat × ContactValue)) : (k, v) ∈ forceIn k v xs := by
  induction xs with
  | nil => simp [forceIn]
  | cons y ys ih =>
    obtain ⟨k', w⟩ := y
    by_cases same : k' = k
    · simp [forceIn, same]
    · simp [forceIn, same, ih]

/-- What a filter presents once input `k` is forced to `v` (R38, R48). -/
theorem ContactFilter.presented_forceIn (c : ContactFilter) (k : Nat) (v : ContactValue) (j : Nat) :
    ContactFilter.presented { c with forced := forceIn k v c.forced } j =
      if j = k ∧ (keyedGet k c.inputs).isSome then (some v.settled, .forced) else c.presented j := by
  unfold ContactFilter.presented
  by_cases hj : j = k
  · subst hj
    cases keyedGet j c.inputs <;> simp [ContactFilter.presentedOf, keyedFind_forceIn]
  · cases keyedGet j c.inputs <;> simp [ContactFilter.presentedOf, keyedFind_forceIn, hj]

section
variable {s : State} {x : RxMessage} {rest : List RxMessage} {hi lo v : Byte}

theorem exec_forceInput_offers (offered : s.offers x rest 0x21) (rights : s.rightsOf x.source = .maintain) (unchecked : s.checking = false)
    (content : x.content = [hi, lo, v]) (coded : v.toNat < 2) :
    exec .forceInput s = .next
      (match s.active? with
      | none => (s.afterTaking rest).repliedTo x 0x21 .noActive []
      | some b =>
        if 2048 ≤ 256 * hi.toNat + lo.toNat ∨ (b.memory.mapEntry (256 * hi.toNat + lo.toNat)).role = .unused then
          (s.afterTaking rest).repliedTo x 0x21 .badIndex []
        else if !s.filter.isForced (256 * hi.toNat + lo.toNat) && decide (32 ≤ s.filter.forced.length) then
          (s.afterTaking rest).repliedTo x 0x21 .listFull []
        else ((s.afterTaking rest).force b (256 * hi.toNat + lo.toNat) (forcedValue v)).repliedTo x 0x21 .ok []) := by
  have third : byteAt [hi, lo, v] 2 = v := rfl
  show Host.Outcome.next _ = _
  rw [State.management_unchecked _ offered (Rights.allowMaintain_of_maintain rights) unchecked
    (by simp [forceForm, exactly, content, third, coded])]
  simp only [State.afterTaking_active, State.refuse_taken, State.answer_taken, RxMessage.taken_content, content, fieldAt_two_bytes, third]
  cases s.active? <;> rfl

end

/-- Settles O20: the forced list takes the input, and the change notice leaves the filter and the other blocks alone. -/
theorem forcePresentsItsValue : Obligations.ForcePresentsItsValue := by
  constructor
  · intro s b x rest hi lo v i st offered rights unchecked active content coded hi_lo inRange mapped state room
    have step := exec_forceInput_offers offered rights unchecked content coded
    have notFull : ¬(!s.filter.isForced i && decide (32 ≤ s.filter.forced.length)) = true := by
      rw [Bool.and_eq_true, Bool.not_eq_true', decide_eq_true_eq, ← Bool.not_eq_true, ContactFilter.isForced_iff]
      exact fun ⟨fresh, full⟩ => fresh (room.resolve_right (by omega))
    subst hi_lo
    simp only [active] at step
    rw [if_neg (not_or.mpr ⟨by omega, mapped⟩), if_neg notFull] at step
    have filter : (((s.afterTaking rest).force b (256 * hi.toNat + lo.toNat) (forcedValue v)).repliedTo x 0x21 .ok []).filter
        = { s.filter with forced := forceIn (256 * hi.toNat + lo.toNat) (forcedValue v) s.filter.forced } := by
      simp [State.repliedTo, State.force]
    refine ⟨_, step, ?_⟩
    rw [filter]
    refine ⟨?_, mem_forceIn _ _ _, fun j other => ?_, rfl, forceIn_length _ _ _, ?_, ?_, ?_, ?_, ?_, ?_⟩
    · rw [ContactFilter.presented_forceIn, if_pos ⟨rfl, by simp [state]⟩, forcedValue]
      split <;> rfl
    · rw [ContactFilter.presented_forceIn, if_neg (fun h => other h.1)]
    all_goals simp [State.repliedTo, State.force, State.send]
  · intro s x rest hi lo v i offered rights unchecked content coded hi_lo
    have step := exec_forceInput_offers offered rights unchecked content coded
    subst hi_lo
    refine ⟨fun idle => ?_, fun b active => ⟨fun bad => ?_, fun inRange mapped fresh full => ?_⟩⟩
    · simpa only [idle] using step
    · simp only [active] at step
      rw [step, if_pos bad]
    · simp only [active] at step
      have isFull : (!s.filter.isForced (256 * hi.toNat + lo.toNat) && decide (32 ≤ s.filter.forced.length)) = true := by
        rw [← ContactFilter.isForced_iff, Bool.not_eq_true] at fresh
        simp [fresh, full]
      rw [step, if_neg (not_or.mpr ⟨by omega, mapped⟩), if_pos isFull]

/-! ### RELEASE_INPUT (R49, R60) -/

theorem keyedFind_filter_ne (k : Nat) (xs : List (Nat × ContactValue)) :
    ContactFilter.presentedOf.keyedFind k (xs.filter fun y => decide (y.1 ≠ k)) = none := by
  induction xs with
  | nil => rfl
  | cons y ys ih =>
    obtain ⟨k', w⟩ := y
    by_cases same : k' = k
    · simpa [same] using ih
    · simpa [same, ContactFilter.presentedOf.keyedFind] using ih

theorem keyedGet_map {α β : Type} (f : Nat → α → β) (k : Nat) (xs : List (Nat × α)) :
    keyedGet k (xs.map fun x => (x.1, f x.1 x.2)) = (keyedGet k xs).map (f k) := by
  induction xs with
  | nil => rfl
  | cons y ys ih =>
    obtain ⟨k', v⟩ := y
    by_cases same : k' = k
    · subst same
      simp [keyedGet]
    · simp [keyedGet, same, ih]

/-- The state of an input after its release: steady where it is flash-classified (R60). -/
theorem ContactFilter.release_state (c : ContactFilter) (m : Memory) (k : Nat) :
    keyedGet k (c.release m k).inputs = (keyedGet k c.inputs).map fun st => if m.flashClassified k then st.release else st := by
  have inputs : (c.release m k).inputs = c.inputs.map fun x => (x.1, if x.1 = k ∧ m.flashClassified k then x.2.release else x.2) := by
    refine List.map_congr_left fun x _ => ?_
    split <;> rfl
  rw [inputs, keyedGet_map fun j (st : InputState) => if j = k ∧ m.flashClassified k then st.release else st]
  simp

/-- An input presents its underlying state again once it is released (R38, R49, R60). -/
theorem ContactFilter.presented_release (c : ContactFilter) (m : Memory) {k : Nat} {st : InputState} (h : keyedGet k c.inputs = some st) :
    (c.release m k).presented k =
      (if m.flashClassified k then st.debounced.map ContactValue.settled else st.settled, if st.debounced.isSome then .good else .unknown) := by
  unfold ContactFilter.presented
  rw [ContactFilter.release_state, h]
  have unforced : ContactFilter.presentedOf.keyedFind k (c.release m k).forced = none := keyedFind_filter_ne k c.forced
  simp only [Option.map_some, ContactFilter.presentedOf, unforced]
  split <;> rfl

theorem exec_releaseInput_offers {s : State} {x : RxMessage} {rest : List RxMessage} {hi lo : Byte} (offered : s.offers x rest 0x22)
    (rights : s.rightsOf x.source = .maintain) (unchecked : s.checking = false) (content : x.content = [hi, lo]) :
    exec .releaseInput s = .next
      (match s.active? with
      | none => (s.afterTaking rest).repliedTo x 0x22 .noActive []
      | some b =>
        if 2048 ≤ 256 * hi.toNat + lo.toNat then (s.afterTaking rest).repliedTo x 0x22 .badIndex []
        else if !s.filter.isForced (256 * hi.toNat + lo.toNat) then (s.afterTaking rest).repliedTo x 0x22 .notForced []
        else
          (({ s.afterTaking rest with filter := s.filter.release b.memory (256 * hi.toNat + lo.toNat) }).presentForced b
            (256 * hi.toNat + lo.toNat) (s.filter.presented (256 * hi.toNat + lo.toNat))).repliedTo x 0x22 .ok []) := by
  show Host.Outcome.next _ = _
  rw [State.management_unchecked _ offered (Rights.allowMaintain_of_maintain rights) unchecked (by simp [exactly, content])]
  simp only [State.afterTaking_active, State.refuse_taken, State.answer_taken, RxMessage.taken_content, content, fieldAt_two_bytes]
  cases s.active? <;> rfl

/-- Settles O21. -/
theorem releasePresentsUnderlyingState : Obligations.ReleasePresentsUnderlyingState := by
  constructor
  · intro s b x rest hi lo i st offered rights unchecked active content hi_lo inRange state
    have step := exec_releaseInput_offers offered rights unchecked content
    subst hi_lo
    simp only [active] at step
    rw [if_neg (by omega)] at step
    refine ⟨fun unforced => ?_, fun forced => ⟨_, step, ?_⟩⟩
    · rw [step, if_pos (by rwa [Bool.not_eq_true', ← Bool.not_eq_true, ContactFilter.isForced_iff])]
    · rw [if_neg (by simp [(ContactFilter.isForced_iff _ _).mpr forced])]
      refine ⟨?_, ?_, ?_, ?_, ?_, ?_, ?_, ?_⟩
      · simp [State.repliedTo, ContactFilter.release]
      · simpa [State.repliedTo] using ContactFilter.presented_release s.filter b.memory state
      all_goals simp [State.repliedTo, State.send]
  · intro s x rest hi lo offered rights unchecked content
    have step := exec_releaseInput_offers offered rights unchecked content
    refine ⟨fun idle => by simpa only [idle] using step, fun active past => ?_⟩
    obtain ⟨b, active⟩ := Option.ne_none_iff_exists'.mp active
    simp only [active] at step
    rw [step, if_pos past]

end Sys2Proof.Machine
end

section
/-! The request engine's own events and messages (R119 to R132, R135): slots, outcomes, the watchdog, OPERATE and CANCEL. -/

namespace Sys2Proof.Machine

/-! ### Slot by slot -/

section
variable (r : RequestEngine) (b : Bank) (f : Slot → Slot) (which : Slot → Bool) (result : RequestResult) (stamp : Stamp)
  (reasons : Option Reasons)

theorem RequestEngine.endSlots_slot (k : Nat) :
    (r.endSlots which result stamp reasons).slots[k]? = (r.slots[k]?).map fun o => o.filter fun sl => !which sl := by
  simp [RequestEngine.endSlots]

theorem RequestEngine.endSlots_slot_free {k : Nat} (h : r.slots[k]? = some none) :
    (r.endSlots which result stamp reasons).slots[k]? = some none := by
  simp [RequestEngine.endSlots_slot, h]

theorem RequestEngine.endSlots_slot_ends {k : Nat} {sl : Slot} (h : r.slots[k]? = some (some sl)) (ends : which sl = true) :
    (r.endSlots which result stamp reasons).slots[k]? = some none := by
  simp [RequestEngine.endSlots_slot, h, ends]

theorem RequestEngine.endSlots_slot_stays {k : Nat} {sl : Slot} (h : r.slots[k]? = some (some sl)) (stays : which sl = false) :
    (r.endSlots which result stamp reasons).slots[k]? = some (some sl) := by
  simp [RequestEngine.endSlots_slot, h, stays]

theorem RequestEngine.endSlots_outcomes :
    (r.endSlots which result stamp reasons).outcomes = r.outcomes ++ (r.occupied.filter which).map fun sl => sl.outcome result stamp reasons :=
  rfl

theorem RequestEngine.mem_occupied {k : Nat} {sl : Slot} (h : r.slots[k]? = some (some sl)) : sl ∈ r.occupied :=
  List.mem_filterMap.mpr ⟨some sl, List.mem_of_getElem? h, rfl⟩

theorem RequestEngine.endSlots_mem_outcomes {sl : Slot} (h : sl ∈ r.occupied) (ends : which sl = true) :
    sl.outcome result stamp reasons ∈ (r.endSlots which result stamp reasons).outcomes :=
  List.mem_append_right _ (List.mem_map_of_mem (List.mem_filter.mpr ⟨h, ends⟩))

/-- What the steps and the count of a slot bring about (R130). -/
theorem RequestEngine.bringUpToDate_slot (k : Nat) :
    (r.bringUpToDate b f stamp).slots[k]? =
      (r.slots[k]?).map fun o => o.bind fun sl => if ((f sl).ending b).isSome then none else some (f sl).goOn := by
  simp [RequestEngine.bringUpToDate]

end

/-- A slot ends NOT_PROVED with every step DONE and its count at its proof count (R130). -/
theorem Slot.ending_notProved (sl : Slot) (b : Bank) :
    sl.ending b = some .notProved ↔ sl.allDone = true ∧ ∃ p, (b.pointCounts sl.point).proof = some p ∧ p ≤ sl.count := by
  unfold Slot.ending
  split
  · rename_i done
    cases proof : (b.pointCounts sl.point).proof with
    | none => simp
    | some p =>
      by_cases early : sl.count < p
      · simp [early]
      · simp [done, early, Nat.le_of_not_lt early]
  · rename_i notDone
    simp [notDone]

/-- The slots brought up to date follow the table of R130. -/
theorem slotsFollow_bringUpToDate {s t : State} {b : Bank} {f : Slot → Slot}
    (slots : t.request.slots = (s.request.bringUpToDate b f s.now).slots)
    (outcomes : t.request.outcomes = (s.request.bringUpToDate b f s.now).outcomes) : s.slotsFollow t b f := by
  refine ⟨fun k free => ?_, fun k sl u taken brought => ⟨fun running => ?_, fun done noProof => ?_, fun p done proof => ?_⟩, ?_, ?_⟩
  · rw [slots, RequestEngine.bringUpToDate_slot, free]
    rfl
  · subst brought
    rw [slots, RequestEngine.bringUpToDate_slot, taken]
    simp [Slot.ending, Slot.goOn, running]
  · subst brought
    rw [slots, RequestEngine.bringUpToDate_slot, taken]
    simp [Slot.ending, done, noProof]
  · subst brought
    rw [slots, RequestEngine.bringUpToDate_slot, taken]
    by_cases early : (f sl).count < p
    · simp [Slot.ending, Slot.goOn, done, proof, early]
    · simp [Slot.ending, done, proof, early]
  · rw [slots]
    simp [RequestEngine.bringUpToDate]
  · rw [outcomes]
    simp only [RequestEngine.bringUpToDate, List.filterMap_map]
    congr 2
    funext sl
    simp only [Function.comp_apply, Slot.ending]
    cases done : (f sl).allDone with
    | false => simp
    | true =>
      cases proof : (b.pointCounts (f sl).point).proof with
      | none => rfl
      | some p =>
        by_cases early : (f sl).count < p
        · simp [early]
        · simp [early]
          rfl

/-- Settles O23. -/
theorem stepTimingUpdatesSlots : Obligations.StepTimingUpdatesSlots := by
  intro s b active
  refine ⟨s.onRequest fun r => r.bringUpToDate b (Slot.updateSteps b) s.now, ?_, fun c d h => ⟨rfl, rfl, rfl⟩,
    slotsFollow_bringUpToDate rfl rfl, rfl⟩
  show (match s.active? with | none => _ | some b => _) = _
  rw [active]

/-- The outputs that a slot commands on are those of its steps that are ON (R128). -/
theorem Slot.mem_onOutputs (m : Memory) (sl : Slot) (o : Nat) :
    o ∈ sl.onOutputs m ↔ ∃ k : Nat, (m.pointOutputs sl.point)[k]? = some o ∧ sl.steps[k]? = some .on := by
  unfold Slot.onOutputs
  constructor
  · intro h
    obtain ⟨⟨o', st⟩, hx, ho⟩ := List.mem_filterMap.mp h
    obtain ⟨k, hk⟩ := List.mem_iff_getElem?.mp hx
    rw [List.getElem?_zip_eq_some] at hk
    by_cases on : st = .on
    · simp only [on, if_true, Option.some.injEq] at ho
      exact ⟨k, ho ▸ hk.1, on ▸ hk.2⟩
    · simp [on] at ho
  · rintro ⟨k, ho, on⟩
    refine List.mem_filterMap.mpr ⟨(o, .on), List.mem_iff_getElem?.mpr ⟨k, ?_⟩, rfl⟩
    rw [List.getElem?_zip_eq_some]
    exact ⟨ho, on⟩

/-! ### Proofs (R123, R130, R131) -/

/-- The slots that a proof's time ends (R130). -/
def Slot.proofTimePassed (b : Bank) (sl : Slot) : Bool :=
  sl.allDone && (b.pointCounts sl.point).proof.any fun p => decide (p ≤ sl.count)

theorem Slot.proofTimePassed_eq (b : Bank) : (fun sl : Slot => decide (sl.ending b = some .notProved)) = Slot.proofTimePassed b := by
  funext sl
  rw [Bool.eq_iff_iff, decide_eq_true_eq, Slot.ending_notProved, Slot.proofTimePassed, Bool.and_eq_true, Option.any_eq_true]
  simp

theorem exec_proofTimeExpiry_of_active {s : State} {b : Bank} (active : s.active? = some b) :
    exec .proofTimeExpiry s = .next (s.onRequest fun r => r.endSlots (Slot.proofTimePassed b) .notProved s.now none) := by
  rw [← Slot.proofTimePassed_eq]
  show (match s.active? with | none => _ | some b => _) = _
  rw [active]

/-- The proof of a slot's request is met by a notice (R131). -/
def Slot.provedBy (m : Memory) (src : Source) (value : Option Nat) (quality : Quality) (sl : Slot) : Bool :=
  decide (m.proofSource? sl.point = some src) && proofMet (m.proofValue sl.point) value quality

theorem State.takeProofNotice_of_active {s : State} {b : Bank} (active : s.active? = some b) (src : Source) (value : Option Nat)
    (quality : Quality) (stamp : Stamp) :
    s.takeProofNotice src value quality stamp = s.onRequest fun r =>
      (r.noteProof src value quality).endSlots (Slot.provedBy b.memory src value quality) .proved stamp none := by
  unfold State.takeProofNotice
  rw [active]
  rfl

/-- Settles O24. -/
theorem proofTimeEndsNotProved : Obligations.ProofTimeEndsNotProved := by
  constructor
  · intro s b active
    refine ⟨_, exec_proofTimeExpiry_of_active active, fun k sl p taken proof done => ⟨fun passed => ?_, fun early => ?_⟩,
      fun k sl taken goesOn => ?_, fun k free => ?_, rfl, rfl⟩
    · have ends : Slot.proofTimePassed b sl = true := by simp [Slot.proofTimePassed, done, proof, passed]
      exact ⟨RequestEngine.endSlots_slot_ends _ _ _ _ _ taken ends,
        RequestEngine.endSlots_mem_outcomes _ _ _ _ _ (RequestEngine.mem_occupied _ taken) ends⟩
    · exact RequestEngine.endSlots_slot_stays _ _ _ _ _ taken (by simp [Slot.proofTimePassed, proof, early])
    · refine RequestEngine.endSlots_slot_stays _ _ _ _ _ taken ?_
      rcases goesOn with running | noProof
      · simp [Slot.proofTimePassed, running]
      · simp [Slot.proofTimePassed, noProof]
    · exact RequestEngine.endSlots_slot_free _ _ _ _ _ free
  · intro s b src value quality stamp met t active ht hmet
    rw [State.takeProofNotice_of_active active] at ht
    subst ht
    have met_iff (sl : Slot) : Slot.provedBy b.memory src value quality sl = true ↔ met sl := by
      simp [Slot.provedBy, proofMet, hmet]
    have unmet (sl : Slot) (h : ¬met sl) : Slot.provedBy b.memory src value quality sl = false := by
      rwa [← met_iff, Bool.not_eq_true] at h
    refine ⟨fun k free => ?_, fun k sl taken => ⟨fun proved => ?_, fun goesOn => ?_⟩,
      ⟨s.request.occupied.filter (Slot.provedBy b.memory src value quality), List.filter_sublist, fun sl hsl => ?_, rfl⟩, fun o => ?_,
      ?_, rfl, rfl⟩
    · exact RequestEngine.endSlots_slot_free _ _ _ _ _ free
    · have ends := (met_iff sl).mpr proved
      exact ⟨RequestEngine.endSlots_slot_ends _ _ _ _ _ taken ends,
        RequestEngine.endSlots_mem_outcomes _ _ _ _ _ (RequestEngine.mem_occupied _ taken) ends⟩
    · exact RequestEngine.endSlots_slot_stays _ _ _ _ _ taken (unmet sl goesOn)
    · simp [hsl, met_iff]
    · have occupied : (s.onRequest fun r => (r.noteProof src value quality).endSlots (Slot.provedBy b.memory src value quality) .proved
          stamp none).request.occupied = s.request.occupied.filter fun sl => !Slot.provedBy b.memory src value quality sl := by
        rw [State.onRequest_request, RequestEngine.endSlots_occupied]
        rfl
      rw [State.commandedOn, State.onRequest_active, active]
      simp only [occupied, List.mem_flatMap, List.mem_filter, Slot.mem_onOutputs, Bool.not_eq_true', ← Bool.not_eq_true, met_iff, and_assoc]
    · refine List.map_congr_left fun ps _ => ?_
      split
      · rename_i same
        rw [same]
      · rfl

/-! ### Authority judged as an event of its own (R118, R121) -/

theorem Event.judgeAuthority_judged (e : Event) (stamp : Stamp) :
    (e.judgeAuthority stamp).st.request =
      if e.st.reasonSet = e.st.request.reasons ∧ e.st.request.authority = e.st.reasonSet.isEmpty then e.st.request
      else e.st.request.judged e.st.reasonSet e.st.now := by
  unfold Event.judgeAuthority RequestEngine.judged
  dsimp only
  split
  · rfl
  · split <;> split <;> simp [State.withConditions]

/-- The state once authority has been judged again, with its round (R118). -/
def State.authorityJudged (s : State) (stamp : Stamp) : State := ((Event.start s).judgeAuthority stamp).close

section
variable (s : State) (stamp : Stamp)

theorem State.authorityJudged_frame :
    { s.authorityJudged stamp with evaluator := s.evaluator, report := s.report, request := s.request } = s := by
  simp [State.authorityJudged, Event.start]

@[simp] theorem State.authorityJudged_request : (s.authorityJudged stamp).request = ((Event.start s).judgeAuthority stamp).st.request :=
  Event.close_request _

theorem State.authorityJudged_reasonSet : (s.authorityJudged stamp).reasonSet = s.reasonSet := by
  rw [State.authorityJudged, Event.close_reasonSet, Event.judgeAuthority_reasonSet]
  rfl

/-- The reason set and the authority state are those of the conditions of R118. -/
theorem State.authorityJudged_reasons :
    (s.authorityJudged stamp).request.reasons = (s.authorityJudged stamp).reasonSet
      ∧ (s.authorityJudged stamp).request.authority = (s.authorityJudged stamp).reasonSet.isEmpty := by
  rw [State.authorityJudged_reasonSet, State.authorityJudged_request]
  exact (Event.start s).judgeAuthority_request stamp

theorem State.authorityJudged_keepalive :
    (s.authorityJudged stamp).request.lastKeepalive = s.request.lastKeepalive
      ∧ (s.authorityJudged stamp).request.expired = s.request.expired
      ∧ (s.authorityJudged stamp).request.mismatch = s.request.mismatch := by
  have frame := (Event.start s).judgeAuthority_frame stamp
  rw [State.authorityJudged_request]
  exact ⟨(congrArg RequestEngine.lastKeepalive frame :), (congrArg RequestEngine.expired frame :), (congrArg RequestEngine.mismatch frame :)⟩

/-- Where authority is lost every request ends ABORTED_AUTHORITY in slot order, with the reason set (R121, R125). -/
theorem State.authorityJudged_aborts {s : State} (held : s.request.authority = true) (lost : s.reasonSet.isEmpty = false) (stamp : Stamp) :
    (s.authorityJudged stamp).request.occupied = []
      ∧ (s.authorityJudged stamp).request.outcomes =
          s.request.outcomes ++ s.request.occupied.map fun sl => sl.outcome .abortedAuthority s.now (some s.reasonSet) := by
  have changed : ¬(s.reasonSet = s.request.reasons ∧ s.request.authority = s.reasonSet.isEmpty) := by simp [held, lost]
  have judged : (s.authorityJudged stamp).request = s.request.judged s.reasonSet s.now := by
    rw [State.authorityJudged_request, Event.judgeAuthority_judged]
    exact if_neg changed
  rw [judged, RequestEngine.judged, lost]
  refine ⟨?_, ?_⟩
  · simp [RequestEngine.endSlots_occupied]
  · simp [RequestEngine.endSlots_outcomes, RequestEngine.occupied]

end

/-! ### The watchdog and the keepalive (R118, R119) -/

theorem Reasons.isEmpty_of_keepaliveMissing {r : Reasons} (h : r.keepaliveMissing = true) : r.isEmpty = false := by
  simp [Reasons.isEmpty, h]

/-- Settles O25. -/
theorem watchdogEndsAuthority : Obligations.WatchdogEndsAuthority := by
  intro s b a active held
  refine ⟨fun passed => ?_, fun early => ?_⟩
  · have missing : (s.onRequest fun r => { r with expired := true }).reasonSet.keepaliveMissing = true := by simp [State.reasonSet]
    have lost := Reasons.isEmpty_of_keepaliveMissing missing
    obtain ⟨reasons, authority⟩ := (s.onRequest fun r => { r with expired := true }).authorityJudged_reasons s.now
    obtain ⟨lastKeepalive, expired, -⟩ := (s.onRequest fun r => { r with expired := true }).authorityJudged_keepalive s.now
    have same := (s.onRequest fun r => { r with expired := true }).authorityJudged_reasonSet s.now
    refine ⟨(s.onRequest fun r => { r with expired := true }).authorityJudged s.now, ?_, expired, lastKeepalive.trans held, ?_, reasons, ?_,
      fun holds => ?_, ?_⟩
    · show (match s.active?, s.request.lastKeepalive with | some b, some a => _ | _, _ => _) = _
      rw [active, held]
      exact if_pos passed
    · rw [authority, same, lost]
    · rw [reasons, same, missing]
    · obtain ⟨ended, outcomes⟩ := State.authorityJudged_aborts (s := s.onRequest fun r => { r with expired := true }) holds lost s.now
      refine ⟨ended, ?_⟩
      rw [outcomes, reasons, same]
      rfl
    · have frame := (s.onRequest fun r => { r with expired := true }).authorityJudged_frame s.now
      exact (congrArg (fun u : State => { u with request := s.request }) frame :)
  · show (match s.active?, s.request.lastKeepalive with | some b, some a => _ | _, _ => _) = _
    rw [active, held]
    exact if_neg (by omega)

/-- A control message of the CONTROL station in its kind's form comes to the rule that owns it (R167). -/
theorem State.control_taken {s : State} {x : RxMessage} {rest : List RxMessage} {kind : Byte} {form : List Byte → Bool}
    (rule : State → Taken → State) (offered : s.offers x rest kind) (rights : s.rightsOf x.source = .control)
    (formed : form x.content = true) : s.control kind form rule = rule (s.afterTaking rest) x.taken := by
  rw [s.control_offers x rest kind form rule offered, if_pos ⟨rights, formed⟩]

/-- Settles O26. -/
theorem keepaliveMatchesTheIssue : Obligations.KeepaliveMatchesTheIssue := by
  intro s b x rest issue offered active rights short content
  have first : (byteAt x.content 0).toNat = issue.length := by
    rw [content]
    show (BitVec.ofNat 8 issue.length).toNat = _
    rw [BitVec.toNat_ofNat, Nat.mod_eq_of_lt (by omega)]
  have formed : keepaliveForm x.content = true := by
    have length : x.content.length = issue.length + 1 := by rw [content, List.length_cons]
    simp only [keepaliveForm, first, length, Bool.and_eq_true, decide_eq_true_eq]
    omega
  have carried : x.taken.content.drop 1 = issue := by rw [RxMessage.taken_content, content]; rfl
  generalize hu : (s.afterTaking rest).onRequest (fun r => r.takeKeepalive s.clock.own (decide (b.memory.issueValue? keywordTI = some issue))) = u
  have request : u.request = s.request.takeKeepalive s.clock.own (decide (b.memory.issueValue? keywordTI = some issue)) := by rw [← hu]; rfl
  have step : exec .keepalive s = .next (u.authorityJudged (s.afterTaking rest).now) := by
    show Host.Outcome.next _ = _
    rw [State.control_taken _ offered rights formed]
    simp only [State.afterTaking_active, active, carried]
    rw [← hu]
    rfl
  obtain ⟨lastKeepalive, expired, mismatch⟩ := u.authorityJudged_keepalive (s.afterTaking rest).now
  obtain ⟨reasons, authority⟩ := u.authorityJudged_reasons (s.afterTaking rest).now
  refine ⟨_, step, fun same => ?_, fun other => ?_, reasons, authority, ?_⟩
  · rw [lastKeepalive, expired, mismatch, request]
    simp [same, RequestEngine.takeKeepalive]
  · have lost : u.reasonSet.isEmpty = false := by simp [State.reasonSet, Reasons.isEmpty, request, RequestEngine.takeKeepalive, other]
    rw [lastKeepalive, expired, mismatch, authority, State.authorityJudged_reasonSet, lost, request]
    simp [other, RequestEngine.takeKeepalive]
  · have frame := u.authorityJudged_frame (s.afterTaking rest).now
    rw [← hu] at frame ⊢
    exact (congrArg (fun v : State => { v with request := s.request }) frame :)

/-! ### OPERATE (R124, R126, R127) -/

section
variable {s : State} {b : Bank} {x : RxMessage} {rest : List RxMessage} {q : Byte}

theorem exec_operate_offers (offered : s.offers x rest 0x41) (active : s.active? = some b) (rights : s.rightsOf x.source = .control)
    (content : x.content = [q]) : exec .operate s = .next ((s.afterTaking rest).takeOperate b x.taken.tag q.toNat) := by
  show Host.Outcome.next _ = _
  rw [State.control_taken _ offered rights (by simp [exactly, content])]
  simp only [State.afterTaking_active, active, RxMessage.taken_content, content, fieldAt_byte]

theorem RequestEngine.freePlace_iff (r : RequestEngine) : r.freePlace = true ↔ r.outcomes.length + r.occupied.length < 16 := by
  simp [RequestEngine.freePlace]

theorem State.takeOperate_full {tag : Word16} {p : Nat} (full : 16 ≤ s.request.outcomes.length + s.request.occupied.length) :
    s.takeOperate b tag p = s.onRequest RequestEngine.discard := by
  have : s.request.freePlace = false := by rw [← Bool.not_eq_true, RequestEngine.freePlace_iff]; omega
  simp [State.takeOperate, this]

theorem State.takeOperate_passes {tag : Word16} {p : Nat} (room : s.request.outcomes.length + s.request.occupied.length < 16)
    (passes : s.operateRefusal b tag p = none) : s.takeOperate b tag p = s.acceptOperate b tag p := by
  simp [State.takeOperate, (RequestEngine.freePlace_iff _).mpr room, passes]

theorem State.takeOperate_refused {tag : Word16} {p : Nat} {result : RequestResult}
    (room : s.request.outcomes.length + s.request.occupied.length < 16) (refused : s.operateRefusal b tag p = some result) :
    s.takeOperate b tag p = s.onRequest fun r => r.place
      { tag := tag, point := some p, result := result, stamp := s.now, reasons := if result = .notAuthorised then some r.reasons else none } := by
  simp [State.takeOperate, (RequestEngine.freePlace_iff _).mpr room, refused]

theorem Memory.defined_iff (m : Memory) (p : Nat) : m.defined p = true ↔ 1 ≤ m.stepCount p ∧ m.stepCount p ≤ 3 := by simp [Memory.defined]

/-- Every slot is occupied where none is free. -/
theorem all_isSome_iff (xs : List (Option Slot)) : xs.all Option.isSome = true ↔ ∀ k : Nat, xs[k]? ≠ some none := by
  rw [List.all_eq_true]
  constructor
  · intro taken k free
    exact absurd (taken none (List.mem_of_getElem? free)) (by simp)
  · intro none_free o ho
    obtain ⟨k, hk⟩ := List.mem_iff_getElem?.mp ho
    cases o with
    | none => exact absurd hk (none_free k)
    | some sl => rfl

end

theorem State.operateRefusal_of_passes {s : State} {b : Bank} {tag : Word16} {q : Nat} (h : s.operatePasses b tag q) :
    s.operateRefusal b tag q = none := by
  obtain ⟨authority, defined, tagFree, unblocked, idle, slotFree⟩ := h
  have tags : (s.request.occupied.any fun sl => decide (sl.tag = tag)) = false := by simpa using tagFree
  have blocked : (b.memory.pointOutputs q).any s.request.blocked.contains = false := by simpa using unblocked
  have busy : (s.request.occupied.any fun sl => (b.memory.pointOutputs sl.point).any (b.memory.pointOutputs q).contains) = false := by
    simpa using idle
  simp only [State.operateRefusal, authority, defined, tags, blocked, busy, slotFree]
  rfl

theorem State.now_eq (s : State) : s.now = s.report.timeBase := rfl

/-- Settles O27: the lowest free slot is taken, or with the proof met already the outcome placed. -/
theorem operateAccepted : Obligations.OperateAccepted := by
  intro s b x rest q offered active rights content room authority atLeast atMost tagFree unblocked idle free
  have passes : (s.afterTaking rest).operatePasses b x.taken.tag q.toNat := by
    refine ⟨authority, (b.memory.defined_iff _).mpr ⟨atLeast, atMost⟩, tagFree, unblocked, idle, ?_⟩
    rw [← Bool.not_eq_true, all_isSome_iff]
    obtain ⟨k, hk⟩ := free
    exact fun taken => taken k hk
  have step := exec_operate_offers offered active rights content
  rw [State.takeOperate_passes (s := s.afterTaking rest) room (State.operateRefusal_of_passes passes)] at step
  refine ⟨_, step, fun unmet => ?_, fun met => ?_, ?_⟩
  · obtain ⟨k, free, lowest, occupied⟩ := occupy_lowest (b.newSlot x.taken.tag q.toNat s.now) s.request.slots free
    have accepted : (s.afterTaking rest).acceptOperate b x.taken.tag q.toNat = (s.afterTaking rest).onRequest fun r =>
        { r with slots := occupy (b.newSlot x.taken.tag q.toNat s.now) r.slots } := if_neg fun met : s.proofStands b.memory q.toNat = true => by simp [met] at unmet
    rw [accepted]
    exact ⟨rfl, k, free, lowest, occupied⟩
  · have accepted : (s.afterTaking rest).acceptOperate b x.taken.tag q.toNat = (s.afterTaking rest).onRequest fun r =>
        r.place ((b.newSlot x.taken.tag q.toNat s.now).outcome .proved s.now none) := if_pos met
    rw [accepted]
    exact ⟨rfl, rfl⟩
  · unfold State.acceptOperate
    dsimp only
    split <;> rfl

/-- Settles O28: the checks in their order. -/
theorem operateRefused : Obligations.OperateRefused := by
  intro s b x rest q offered active rights content
  have step := exec_operate_offers offered active rights content
  refine ⟨fun full => ?_, fun result room reason => ?_⟩
  · rw [step, State.takeOperate_full (s := s.afterTaking rest) full]
    rfl
  · have refused : (s.afterTaking rest).operateRefusal b x.taken.tag q.toNat = some result := by
      have defined := b.memory.defined_iff q.toNat
      have tags : (s.request.occupied.any fun sl => decide (sl.tag = x.taken.tag)) = true ↔ ∃ sl ∈ s.request.occupied, sl.tag = x.taken.tag := by
        simp
      have blocked : (b.memory.pointOutputs q.toNat).any s.request.blocked.contains = true
          ↔ ∃ o ∈ b.memory.pointOutputs q.toNat, o ∈ s.request.blocked := by simp
      have busy : (s.request.occupied.any fun sl => (b.memory.pointOutputs sl.point).any (b.memory.pointOutputs q.toNat).contains) = true
          ↔ ∃ sl ∈ s.request.occupied, ∃ o ∈ b.memory.pointOutputs sl.point, o ∈ b.memory.pointOutputs q.toNat := by simp
      simp only [State.operateRefusal, State.afterTaking_request, Bool.not_eq_true', ← Bool.not_eq_true, defined, tags, blocked, busy]
      rcases reason with ⟨authority, rfl⟩ | ⟨authority, undefined, rfl⟩ | ⟨authority, isDefined, dup, rfl⟩
        | ⟨authority, isDefined, fresh, isBlocked, rfl⟩ | ⟨authority, isDefined, fresh, unblocked, isBusy, rfl⟩
        | ⟨authority, isDefined, fresh, unblocked, idle, full, rfl⟩
      · rw [if_pos (by simp [authority])]
      · rw [if_neg (by simp [authority]), if_pos undefined]
      · rw [if_neg (by simp [authority]), if_neg (not_not.mpr isDefined), if_pos dup]
      · rw [if_neg (by simp [authority]), if_neg (not_not.mpr isDefined), if_neg (by push Not; exact fresh), if_pos isBlocked]
      · rw [if_neg (by simp [authority]), if_neg (not_not.mpr isDefined), if_neg (by push Not; exact fresh),
          if_neg (by push Not; exact unblocked), if_pos isBusy]
      · rw [if_neg (by simp [authority]), if_neg (not_not.mpr isDefined), if_neg (by push Not; exact fresh),
          if_neg (by push Not; exact unblocked), if_neg (by push Not; exact idle)]
        exact if_pos ((all_isSome_iff s.request.slots).mpr full)
    rw [step, State.takeOperate_refused (s := s.afterTaking rest) room refused]
    rfl

/-! ### CANCEL (R132) -/

/-- Settles O29. -/
theorem cancelEndsTheRequest : Obligations.CancelEndsTheRequest := by
  intro s x rest hi lo tag offered rights content named
  have step : exec .cancel s = .next ((s.afterTaking rest).takeCancel tag) := by
    show Host.Outcome.next _ = _
    rw [State.control_taken _ offered rights (by simp [exactly, content])]
    simp only [RxMessage.taken_content, content, fieldAt_two_bytes, named]
  refine ⟨fun found => ⟨_, step, ?_⟩, fun none => ?_⟩
  · have cancelled : (s.afterTaking rest).takeCancel tag = (s.afterTaking rest).onRequest fun r =>
        r.endSlots (fun sl => decide (sl.tag = tag)) .cancelled s.now Option.none := if_pos (by simpa using found)
    rw [cancelled]
    refine ⟨?_, ?_, rfl⟩
    · rw [State.onRequest_request, RequestEngine.endSlots_occupied]
      exact List.filter_congr fun sl _ => by simp
    · rw [State.onRequest_request, RequestEngine.endSlots_outcomes]
      refine congrArg (s.request.outcomes ++ ·) (List.map_congr_left fun sl hsl => ?_)
      have same : sl.tag = tag := by simpa using (List.mem_filter.mp hsl).2
      rw [← same]
      rfl
  · have notFound : ¬((s.afterTaking rest).request.occupied.any fun sl => decide (sl.tag = tag)) = true := by simpa using none
    rw [step, State.takeCancel, if_neg notFound]
    by_cases room : s.request.outcomes.length + s.request.occupied.length < 16
    · have free : (s.afterTaking rest).request.freePlace = true := (RequestEngine.freePlace_iff _).mpr room
      rw [if_pos free, if_pos room]
      rfl
    · have full : ¬(s.afterTaking rest).request.freePlace = true := fun free => room ((RequestEngine.freePlace_iff _).mp free)
      rw [if_neg full, if_neg room]
      rfl

end Sys2Proof.Machine
end

section
/-! CLEAR_OUTPUT_BLOCK and the readback check (R134, R135). -/

namespace Sys2Proof.Machine

/-- The block on output `key` is cleared, with OUTPUTS_HEALTHY judged again (R135). -/
def State.unblocked (s : State) (key : Nat) : State :=
  (((Event.start s).onState fun s => s.onRequest fun r => r.unblock key).judgeOutputs s.now).close

section
variable (s : State) (key : Nat)

theorem State.unblocked_request : (s.unblocked key).request = s.request.unblock key := by
  simp [State.unblocked, Event.start, Event.onState]

theorem State.unblocked_outputsHealthy : (s.unblocked key).evaluator.conditions.outputsHealthy = (s.request.unblock key).blocked.isEmpty := by
  have condition : (s.unblocked key).evaluator.conditions.get 5 = (s.request.unblock key).blocked.isEmpty := by
    rw [State.unblocked, Event.close_condition _ _ (by decide), Event.judgeOutputs, Event.setCondition_get _ _ _ _ (by decide)]
    rfl
  exact condition

theorem State.unblocked_frame :
    { s.unblocked key with evaluator := s.evaluator, report := s.report, request := s.request } = s := by
  simp [State.unblocked, Event.start, Event.onState]

end

theorem RequestEngine.unblock_grace (r : RequestEngine) (key : Nat) : ((r.unblock key).carriedOf key).grace = 0 := by
  unfold RequestEngine.unblock
  by_cases done : (r.carriedOf key).grace = 0
  · rw [if_pos done]
    exact done
  · rw [if_neg done]
    simp [RequestEngine.carriedOf, keyedGet_put]

/-! ### The readbacks of a card (R134) -/

theorem RequestEngine.checkOutput_carriedOf (r : RequestEngine) (key : Nat) (readback : Bool) :
    (r.checkOutput key readback).carriedOf key =
      if 0 < (r.carriedOf key).grace then { r.carriedOf key with grace := (r.carriedOf key).grace - 1 } else r.carriedOf key := by
  obtain ⟨-, excused, compared, -⟩ := r.checkOutput_spec key readback
  split
  · exact (excused ‹_›).1
  · simp only [RequestEngine.carriedOf, (compared (by omega)).1]

theorem RequestEngine.mem_checkOutput_blocked (r : RequestEngine) (key : Nat) (readback : Bool) (k : Nat) :
    k ∈ (r.checkOutput key readback).blocked
      ↔ k ∈ r.blocked ∨ k = key ∧ (r.carriedOf key).grace = 0 ∧ (r.carriedOf key).state = some (!readback) := by
  obtain ⟨-, excused, compared, -⟩ := r.checkOutput_spec key readback
  rcases Nat.eq_zero_or_pos (r.carriedOf key).grace with none | some
  · rw [(compared none).2]
    simp [none]
  · rw [(excused some).2]
    simp [Nat.ne_of_gt some]

/-- The outputs `os` of card `p` against the readbacks, one after another: each is checked as if it were alone. -/
theorem RequestEngine.checkOutputs_spec (r : RequestEngine) (p values : Nat) (os : List Nat) (distinct : os.Nodup) :
    let u := os.foldl (fun r o => r.checkOutput (outputKey p o) (values.testBit o)) r
    (∀ j ∈ os, u.carriedOf (outputKey p j) = (r.checkOutput (outputKey p j) (values.testBit j)).carriedOf (outputKey p j))
      ∧ (∀ k, (∀ j ∈ os, k ≠ outputKey p j) → u.carriedOf k = r.carriedOf k)
      ∧ ∀ k, k ∈ u.blocked ↔ k ∈ r.blocked ∨ ∃ j ∈ os, k = outputKey p j ∧ k ∈ (r.checkOutput (outputKey p j) (values.testBit j)).blocked := by
  induction os using List.reverseRecOn with
  | nil => simp
  | append_singleton os o ih =>
    obtain ⟨before, -, fresh⟩ := List.nodup_append.mp distinct
    have apart : ∀ j ∈ os, outputKey p o ≠ outputKey p j := fun j hj same =>
      fresh j hj o (List.mem_singleton_self o) (Nat.add_left_cancel same).symm
    rw [List.foldl_append]
    obtain ⟨checked, others, blocked⟩ := ih before
    generalize os.foldl (fun r o => r.checkOutput (outputKey p o) (values.testBit o)) r = u at checked others blocked ⊢
    have untouched := others (outputKey p o) apart
    obtain ⟨elsewhere, -, -, -⟩ := u.checkOutput_spec (outputKey p o) (values.testBit o)
    simp only [List.foldl_cons, List.foldl_nil, List.mem_append, List.mem_singleton]
    refine ⟨fun j hj => ?_, fun k hk => ?_, fun k => ?_⟩
    · rcases hj with hj | rfl
      · rw [elsewhere _ (Ne.symm (apart j hj)), checked j hj]
      · rw [RequestEngine.checkOutput_carriedOf, RequestEngine.checkOutput_carriedOf, untouched]
    · rw [elsewhere k (hk o (.inr rfl)), others k fun j hj => hk j (.inl hj)]
    · rw [RequestEngine.mem_checkOutput_blocked, untouched, blocked]
      constructor
      · rintro ((h | ⟨j, hj, h⟩) | h)
        · exact .inl h
        · exact .inr ⟨j, .inl hj, h⟩
        · exact .inr ⟨o, .inr rfl, h.1, (RequestEngine.mem_checkOutput_blocked _ _ _ _).mpr (.inr h)⟩
      · rintro (h | ⟨j, hj | rfl, hk, h⟩)
        · exact .inl (.inl h)
        · exact .inl (.inr ⟨j, hj, hk, h⟩)
        · rcases (RequestEngine.mem_checkOutput_blocked _ _ _ _).mp h with h | h
          · exact .inl (.inl h)
          · exact .inr h

/-- The 16 outputs of a card are checked each by itself (R134). -/
theorem RequestEngine.checkCard_spec (r : RequestEngine) (p values : Nat) :
    (∀ j, j < 16 →
        (r.checkCard p values).carriedOf (outputKey p j) = (r.checkOutput (outputKey p j) (values.testBit j)).carriedOf (outputKey p j))
      ∧ (∀ k, (∀ j, j < 16 → k ≠ outputKey p j) → (r.checkCard p values).carriedOf k = r.carriedOf k)
      ∧ ∀ k, k ∈ (r.checkCard p values).blocked ↔ k ∈ r.blocked
          ∨ ∃ j, j < 16 ∧ k = outputKey p j ∧ k ∈ (r.checkOutput (outputKey p j) (values.testBit j)).blocked := by
  have spec := r.checkOutputs_spec p values (List.range 16) List.nodup_range
  simp only [List.mem_range] at spec
  exact spec

theorem exec_clearOutputBlock_offers {s : State} {x : RxMessage} {rest : List RxMessage} {p o : Byte} (offered : s.offers x rest 0x26)
    (rights : s.rightsOf x.source = .maintain) (unchecked : s.checking = false) (content : x.content = [p, o]) :
    exec .clearOutputBlock s = .next
      (if s.active? = none then (s.afterTaking rest).repliedTo x 0x26 .noActive []
      else if 32 ≤ p.toNat ∨ 16 ≤ o.toNat then (s.afterTaking rest).repliedTo x 0x26 .badIndex []
      else if outputKey p.toNat o.toNat ∉ s.request.blocked then (s.afterTaking rest).repliedTo x 0x26 .notBlocked []
      else ((s.afterTaking rest).unblocked (outputKey p.toNat o.toNat)).repliedTo x 0x26 .ok []) := by
  show Host.Outcome.next _ = _
  rw [State.management_unchecked _ offered (Rights.allowMaintain_of_maintain rights) unchecked (by simp [exactly, content])]
  simp only [State.afterTaking_active, State.refuse_taken, State.answer_taken, RxMessage.taken_content, content, fieldAt_byte,
    fieldAt_second_byte, Option.isNone_iff_eq_none, State.afterTaking_request, Bool.not_eq_true', ← Bool.not_eq_true, List.contains_iff_mem]
  rfl

/-- Settles O30. -/
theorem clearOutputBlockUnblocks : Obligations.ClearOutputBlockUnblocks := by
  refine ⟨fun s x rest p o offered rights unchecked content => ?_, fun r key readback u hu => ?_, fun r p values u hu => ?_,
    fun e m p values sweepTime card t hcard ht => ?_⟩
  · have step := exec_clearOutputBlock_offers offered rights unchecked content
    refine ⟨fun idle => ?_, fun active bad => ?_, fun active hp ho unblocked => ?_, fun active hp ho blocked => ⟨_, step, ?_⟩⟩
    · rw [step, if_pos idle]
    · rw [step, if_neg active, if_pos bad]
    · rw [step, if_neg active, if_neg (by omega), if_pos (show outputKey p.toNat o.toNat ∉ s.request.blocked from unblocked)]
    · rw [if_neg active, if_neg (by omega), if_neg (not_not.mpr (show outputKey p.toNat o.toNat ∈ s.request.blocked from blocked))]
      have request : (((s.afterTaking rest).unblocked (outputKey p.toNat o.toNat)).repliedTo x 0x26 .ok []).request
          = s.request.unblock (outputKey p.toNat o.toNat) := (s.afterTaking rest).unblocked_request _
      have frame := (s.afterTaking rest).unblocked_frame (outputKey p.toNat o.toNat)
      rw [request]
      refine ⟨fun k => ?_, RequestEngine.unblock_grace _ _, (s.afterTaking rest).unblocked_outputsHealthy _, ?_, rfl, ?_⟩
      · exact List.mem_filter.trans (and_congr_right fun _ => decide_eq_true_iff)
      · have desk := (congrArg State.desk frame :)
        simp only [State.repliedTo, State.send, State.onDesk_desk]
        exact congrArg (fun d : DeskPort => { d with sendList := d.sendList ++ [replyFrame x.source x.taken.tag 0x26 .ok []] }) desk
      · exact (congrArg (fun u : State => { u with desk := s.desk, request := s.request }) frame :)
  · subst hu
    obtain ⟨elsewhere, excused, compared, frame⟩ := r.checkOutput_spec key readback
    exact ⟨elsewhere, excused, compared, frame⟩
  · rw [hu]
    obtain ⟨checked, others, blocked⟩ := r.checkCard_spec p values
    have frame := r.checkCard_frame p values
    exact ⟨checked, others, blocked, frame⟩
  · have request : t.request = card.endBlocked e.st.request m sweepTime := by rw [ht, hcard, Event.checkReadbacks_request]
    have occupied : card.occupied = e.st.request.occupied := by rw [hcard, RequestEngine.checkCard_occupied]
    have outcomes : card.outcomes = e.st.request.outcomes := by rw [hcard, RequestEngine.checkCard_outcomes]
    have healthy : t.evaluator.conditions.outputsHealthy = card.blocked.isEmpty := by
      rw [ht, hcard]
      exact e.checkReadbacks_outputsHealthy m p values sweepTime
    have frame : { t with evaluator := e.st.evaluator, request := e.st.request } = e.st := by
      rw [ht]
      exact e.checkReadbacks_frame m p values sweepTime
    clear hcard ht
    have joins : (fun sl : Slot => (m.pointOutputs sl.point).any fun k => card.blocked.contains k && !e.st.request.blocked.contains k)
        = fun sl => (m.pointOutputs sl.point).any fun o => decide (o ∈ card.blocked ∧ o ∉ e.st.request.blocked) := by
      funext sl
      congr 1
      funext o
      simp
    rw [request]
    refine ⟨rfl, rfl, ?_, ?_, healthy, frame⟩
    · rw [RequestEngine.endBlocked_occupied, occupied]
      exact List.filter_congr fun sl _ => congrArg _ (congrFun joins sl)
    · rw [RequestEngine.endBlocked, RequestEngine.endSlots_outcomes, outcomes, occupied, joins]
      rfl

end Sys2Proof.Machine
end

section
/-! The indication frame and the return from OVERRUN (R107 to R115), change records (R90 to R93, R105), and SET_TIME (R102). -/

namespace Sys2Proof.Machine

/-! ### The return from OVERRUN (R107) -/

section
variable (r : ReportUnit) (limit : Nat)

@[simp] theorem ReportUnit.returnToNormal_timeBase : (r.returnToNormal limit).timeBase = r.timeBase := by
  unfold ReportUnit.returnToNormal; split <;> simp
@[simp] theorem ReportUnit.returnToNormal_timer : (r.returnToNormal limit).timer = r.timer := by
  unfold ReportUnit.returnToNormal; split <;> simp
@[simp] theorem ReportUnit.returnToNormal_frameSequence : (r.returnToNormal limit).frameSequence = r.frameSequence := by
  unfold ReportUnit.returnToNormal; split <;> simp
@[simp] theorem ReportUnit.returnToNormal_slicePointer : (r.returnToNormal limit).slicePointer = r.slicePointer := by
  unfold ReportUnit.returnToNormal; split <;> simp
@[simp] theorem ReportUnit.returnToNormal_framesSent : (r.returnToNormal limit).framesSent = r.framesSent := by
  unfold ReportUnit.returnToNormal; split <;> simp

/-- In NORMAL, and while more than a quarter of the queue limit is left, the queue does not return. -/
theorem ReportUnit.returnToNormal_stays {r : ReportUnit} {limit : Nat} (h : r.queueState = .normal ∨ limit / 4 < r.queue.length) :
    r.returnToNormal limit = r := by
  refine if_neg fun returns => ?_
  rcases h with normal | more
  · simp [normal] at returns
  · omega

end

/-! ### The parts of the frame leave (R110) -/

section
variable (s : State) (b : Bank)

/-- The state once the outcomes and the records of the frame have left. -/
def State.partsLeft : State :=
  { s.onRequest fun r => { r with outcomes := [] } with report := { s.report with queue := s.report.queue.drop 32 } }

/-- Where the queue does not return from OVERRUN, the parts of the frame leave and nothing follows. -/
theorem State.takeFrameParts_stays {s : State} {b : Bank}
    (h : s.report.queueState = .normal ∨ b.memory.queueLimit / 4 < (s.report.queue.drop 32).length) : s.takeFrameParts b = s.partsLeft := by
  have stays : s.report.transfer.returnToNormal b.memory.queueLimit = s.report.transfer := ReportUnit.returnToNormal_stays h
  unfold State.takeFrameParts
  simp only [State.onRequest_report, stays]
  exact if_pos rfl

/-- The state once the queue has returned to NORMAL, before QUEUE_NORMAL is handed on (steps 1 to 3 of R107). -/
def State.returned : State :=
  { s.partsLeft with
    report := { s.report with
      queue := s.report.queue.drop 32 ++ [.resync s.report.timeBase s.report.lostCount s.report.firstLost s.report.lastLost],
      queueState := .normal, lostCount := 0, firstLost := none, lastLost := none } }

/-- Where it returns, QUEUE_NORMAL is handed on as a round of its own (R107). -/
theorem State.takeFrameParts_returns {s : State} {b : Bank} (overrun : s.report.queueState = .overrun) (limit : b.memory.queueLimit ≤ 512)
    (few : (s.report.queue.drop 32).length ≤ b.memory.queueLimit / 4) :
    s.takeFrameParts b = ((Event.start s.returned).setCondition 3 true s.now).close := by
  have returns : s.report.transfer.returnToNormal b.memory.queueLimit = s.returned.report :=
    ReportUnit.returnToNormal_places_resync s.report.transfer b.memory.queueLimit limit overrun few
  have changed : ¬s.returned.report.queueState = s.report.queueState := by rw [overrun]; exact QueueState.noConfusion
  unfold State.takeFrameParts
  simp only [State.onRequest_report, returns]
  exact if_neg changed

/-- Whether the queue returns or not, the frame's parts leave the other blocks, and of the report unit all but the queue, as they were. -/
theorem State.takeFrameParts_frame :
    { s.takeFrameParts b with evaluator := s.evaluator, report := s.report } = s.onRequest fun r => { r with outcomes := [] } := by
  unfold State.takeFrameParts
  dsimp only
  split
  · rfl
  · simp [Event.start]
    rfl

theorem State.takeFrameParts_report :
    (s.takeFrameParts b).report.frameSequence = s.report.frameSequence ∧ (s.takeFrameParts b).report.framesSent = s.report.framesSent
      ∧ (s.takeFrameParts b).report.timeBase = s.report.timeBase := by
  unfold State.takeFrameParts
  dsimp only
  split
  · simp [ReportUnit.transfer]
  · simp [Event.start, ReportUnit.transfer]

end

/-! ### The frame's layout (R180) -/

theorem Cause.bytes_length (c : Cause) : c.bytes.length = 3 := by
  cases c <;> simp [Cause.bytes]

theorem stampBytes_length (t : Option Stamp) : (stampBytes t).length = 6 := by
  cases t <;> simp [stampBytes]

/-- A queue record is 23 bytes long. -/
theorem Record.bytes_length (r : Record) : r.bytes.length = 23 := by
  have fits : r.fields.length ≤ 23 := by
    cases r <;> simp [Record.fields, Cause.bytes_length, stampBytes_length]
  simp only [Record.bytes, List.length_append, List.length_replicate]
  omega

theorem imageSlice_bytes (objects : List ObjectState) (n start size : Nat) :
    (imageSlice objects n start size).flatMap ImageEntry.bytes =
      ((List.range size).filterMap fun k => objects[(start + k) % n]?).flatMap fun o => [o.entry.indication, o.entry.quality.code] := by
  unfold imageSlice
  rw [← List.map_filterMap, List.flatMap_map]
  rfl

theorem sliceSize_eq (q : QueueState) (n : Nat) : sliceSize q n = if q = .normal then min 64 n else min 256 n := by
  cases q <;> rfl

theorem OutcomeRecord.bytes_eq (o : OutcomeRecord) :
    o.bytes = toBytes 2 o.tag.toNat ++ [BitVec.ofNat 8 (o.point.getD 0), o.result.code] ++ toBytes 6 o.stamp.toNat
      ++ [match o.reasons with
        | none => (0 : Byte)
        | some r => r.code] := by
  unfold OutcomeRecord.bytes
  cases o.reasons <;> rfl

theorem exec_reportPeriodExpiry_of_active {s : State} {b : Bank} (active : s.active? = some b) (due : s.report.timer = some 0) :
    exec .reportPeriodExpiry s = .next (s.emitFrame b) := by
  show (match s.active?, s.report.timer with | some b, some 0 => _ | _, _ => _) = _
  rw [active, due]
  rfl

/-- Settles O31. -/
theorem reportPeriodEmitsOneFrame : Obligations.ReportPeriodEmitsOneFrame := by
  intro s b size left active due hsize hleft
  have size_eq : sliceSize s.report.queueState b.memory.objectCount = size := by rw [hsize, sliceSize_eq]
  have frame := s.takeFrameParts_frame b
  obtain ⟨sequence, sent, -⟩ := s.takeFrameParts_report b
  refine ⟨s.emitFrame b, s.frameContent (s.takeFrameParts b) b, exec_reportPeriodExpiry_of_active active due, ?_, ?_, fun r _ => r.bytes_length,
    (congrArg State.request frame :), ?_, ?_, ?_, rfl, fun stays => ?_, ?_⟩
  · have desk := (congrArg State.desk frame :)
    exact congrArg (fun d : DeskPort => { d with
      sendList := d.sendList ++ [(⟨b.memory.deskAddress, 0x81, 0, s.frameContent (s.takeFrameParts b) b⟩ : TxFrame)] }) desk
  · have overrun : (decide (s.report.queueState = .overrun)).toNat = if s.report.queueState = .overrun then 1 else 0 := by
      cases s.report.queueState <;> rfl
    have outcomes := funext OutcomeRecord.bytes_eq
    rw [State.frameContent, State.headerBytes, size_eq, overrun, imageSlice_bytes, outcomes]
    rfl
  · rw [← size_eq]
    rfl
  · exact congrArg (· + 1) sequence
  · exact congrArg (· + 1) sent
  · rw [hleft] at stays
    have parts := State.takeFrameParts_stays stays
    simp only [State.emitFrame, parts]
    rw [hleft]
    exact ⟨rfl, rfl⟩
  · exact (congrArg (fun u : State => { u with request := s.request, desk := s.desk }) frame :)

/-! ### The round of the return (R107, R108) -/

/-- A round that touches no object changes nothing (R89). -/
theorem State.runRound_untouched {s : State} {round : List TermChange}
    (untouched : ∀ o ∈ s.evaluator.objects, ∀ tm ∈ o.terms, tm.touched round = false) : s.runRound round = s := by
  cases active : s.active? with
  | none => exact State.runRound_idle (by simp [State.activeMemory, active]) round
  | some b =>
    have same (j : Nat) (o : ObjectState) (ho : o ∈ s.evaluator.objects) : evaluateObject b.memory round j o = (o, none) := by
      have none_touched : ¬o.terms.any (TermState.touched round) = true := by simpa using untouched o ho
      exact if_neg none_touched
    have objects : (s.evaluator.objects.mapIdx fun j o => (evaluateObject b.memory round (0 + j) o).1) = s.evaluator.objects := by
      refine List.ext_getElem? fun j => ?_
      rw [List.getElem?_mapIdx]
      cases h : s.evaluator.objects[j]? with
      | none => rfl
      | some o => simp [same _ o (List.mem_of_getElem? h)]
    have records : (s.evaluator.objects.mapIdx fun j o => (evaluateObject b.memory round (0 + j) o).2).filterMap id = [] := by
      refine List.filterMap_eq_nil_iff.mpr fun x hx => ?_
      obtain ⟨j, hj, rfl⟩ := List.mem_mapIdx.mp hx
      simp [same _ _ (List.getElem_mem hj)]
    simp only [State.runRound, active, evaluateFrom_eq, objects, records]
    rfl

theorem State.finishRound_untouched {s : State} {round : List TermChange}
    (untouched : ∀ o ∈ s.evaluator.objects, ∀ tm ∈ o.terms, tm.touched round = false) : s.finishRound round = s := by
  rw [State.finishRound, State.runRound_untouched untouched, State.afterOverrun]
  exact if_neg fun ⟨normal, overrun⟩ => QueueState.noConfusion (normal.symm.trans overrun)

/-- A change of one condition touches no object without a term of it. -/
theorem touched_setCondition {s : State} {c : Nat} {v : Bool} {stamp : Stamp} {tm : TermState} (other : tm.source ≠ ⟨.condition, c⟩) :
    tm.touched ((Event.start s).setCondition c v stamp).round = false := by
  rw [← Bool.not_eq_true, TermState.touched, lastChange_isSome]
  rintro ⟨change, inRound, same⟩
  unfold Event.setCondition at inRound
  split at inRound
  · exact absurd inRound List.not_mem_nil
  · obtain rfl := List.mem_singleton.mp inRound
    exact other same.symm

theorem Event.close_untouched {e : Event} (untouched : ∀ o ∈ e.st.evaluator.objects, ∀ tm ∈ o.terms, tm.touched e.round = false) :
    e.close = e.st := by
  unfold Event.close
  split
  · rfl
  · exact State.finishRound_untouched untouched

theorem Event.close_queueNormalGood {e : Event} (h : e.st.queueNormalGood) : e.close.queueNormalGood := by
  unfold Event.close
  split
  · exact h
  · exact State.finishRound_queueNormalGood h _

theorem Event.close_reportGood {e : Event} (h : e.st.report.good) : e.close.report.good := by
  unfold Event.close
  split
  · exact h
  · exact finishRound_reportGood h _

/-- QUEUE_NORMAL handed on as 1 changes the image's conditions alone. -/
theorem Event.setCondition_queueNormal (s : State) (stamp : Stamp) :
    ((Event.start s).setCondition 3 true stamp).st.evaluator =
      { s.evaluator with conditions := { s.evaluator.conditions with queueNormal := true } } := by
  unfold Event.setCondition
  split
  · rename_i already
    have already : s.evaluator.conditions.queueNormal = true := already
    rw [← already]
    rfl
  · rfl

/-- Settles O32. -/
theorem overrunEndsAtAQuarter : Obligations.OverrunEndsAtAQuarter := by
  intro s b left active due overrun limit hleft
  refine ⟨s.emitFrame b, exec_reportPeriodExpiry_of_active active due, ?_⟩
  have report : (s.emitFrame b).report.queue = (s.takeFrameParts b).report.queue
      ∧ (s.emitFrame b).report.queueState = (s.takeFrameParts b).report.queueState
      ∧ (s.emitFrame b).report.lostCount = (s.takeFrameParts b).report.lostCount
      ∧ (s.emitFrame b).report.firstLost = (s.takeFrameParts b).report.firstLost
      ∧ (s.emitFrame b).report.lastLost = (s.takeFrameParts b).report.lastLost
      ∧ (s.emitFrame b).report.changesLost = (s.takeFrameParts b).report.changesLost
      ∧ (s.emitFrame b).report.markersLost = (s.takeFrameParts b).report.markersLost
      ∧ (s.emitFrame b).report.timeBase = (s.takeFrameParts b).report.timeBase
      ∧ (s.emitFrame b).evaluator = (s.takeFrameParts b).evaluator := ⟨rfl, rfl, rfl, rfl, rfl, rfl, rfl, rfl, rfl⟩
  obtain ⟨queue, queueState, lostCount, firstLost, lastLost, changesLost, markersLost, timeBase, evaluator⟩ := report
  rw [queue, queueState, lostCount, firstLost, lastLost, changesLost, markersLost, timeBase, evaluator]
  subst hleft
  by_cases few : (s.report.queue.drop 32).length ≤ b.memory.queueLimit / 4
  · have parts := State.takeFrameParts_returns overrun limit few
    have start : ((Event.start s.returned).setCondition 3 true s.now).st.report = s.returned.report := by simp [Event.start]
    have conditions := Event.setCondition_queueNormal s.returned s.now
    generalize he : (Event.start s.returned).setCondition 3 true s.now = e at parts start conditions
    have good : e.st.report.good := by
      rw [start]
      refine ⟨?_, fun _ => ⟨rfl, rfl, rfl⟩⟩
      show (s.report.queue.drop 32 ++ [_]).length ≤ 512
      rw [List.length_append, List.length_singleton]
      omega
    have normal : e.st.queueNormalGood := by
      rw [State.queueNormalGood, conditions, start]
      exact iff_of_true rfl rfl
    rw [parts]
    refine ⟨fun more => by omega, fun _ => ⟨?_, fun returned => ?_, fun noTerm => ?_⟩, ?_, ?_⟩
    · have prefixed := e.close_prefix
      rwa [start] at prefixed
    · obtain ⟨lost, first, last⟩ := (Event.close_reportGood good).2 returned
      exact ⟨lost, first, last, (Event.close_queueNormalGood normal).mpr returned⟩
    · have closed : e.close = e.st := by
        refine Event.close_untouched fun o ho tm htm => ?_
        rw [conditions] at ho
        rw [← he]
        exact touched_setCondition (noTerm o ho tm htm)
      rw [closed, start, conditions]
      exact ⟨rfl, rfl, rfl, rfl⟩
    · rw [Event.close_report_markersLost, start]
      rfl
    · rw [Event.close_report_timeBase, start]
      rfl
  · rw [State.takeFrameParts_stays (.inr (by omega))]
    exact ⟨fun _ => ⟨rfl, overrun, rfl, rfl, rfl, rfl⟩, fun h => absurd h few, rfl, rfl⟩

/-! ### What an evaluation makes (R90 to R93) -/

theorem shownEntry_quality (m : Memory) (oe : ObjectEntry) (ts : List TermState) : (shownEntry m oe ts).quality = objectQuality ts := by
  unfold shownEntry
  cases objectQuality ts <;> rfl

theorem shownEntry_of_row (m : Memory) (oe : ObjectEntry) {ts : List TermState}
    (h : objectQuality ts = .good ∨ objectQuality ts = .forced) :
    (shownEntry m oe ts).indication = m.indication (oe.rowBase + combinationIndex ts) := by
  unfold shownEntry
  rcases h with h | h <;> rw [h]

theorem shownEntry_of_fallback (m : Memory) (oe : ObjectEntry) {ts : List TermState}
    (h : objectQuality ts = .fault ∨ objectQuality ts = .unknown) : (shownEntry m oe ts).indication = oe.fallback := by
  unfold shownEntry
  rcases h with h | h <;> rw [h]

/-- The change record of an evaluation (R92, R93). -/
theorem evaluateObject_record (m : Memory) (round : List TermChange) (j : Nat) (o : ObjectState) :
    (evaluateObject m round j o).2 =
      if o.terms.any (TermState.touched round) ∧ (evaluateObject m round j o).1.entry ≠ o.entry then
        (latestTerm ((evaluateObject m round j o).1.terms.filter (TermState.touched round))).map fun t =>
          .change j (evaluateObject m round j o).1.entry.indication (evaluateObject m round j o).1.entry.quality t.stamp t.cause
      else none := by
  rw [evaluateObject_state]
  by_cases touched : o.terms.any (TermState.touched round) = true
  · unfold evaluateObject
    by_cases same : shownEntry m (m.objectEntry j) (o.terms.map (TermState.take round)) = o.entry
    · simp only [touched, same, if_true]
      simp
    · simp only [touched, same, if_true, if_false]
      cases latestTerm ((o.terms.map (TermState.take round)).filter (TermState.touched round)) <;> simp [same]
  · unfold evaluateObject
    simp [touched]

theorem TermState.take_eq (round : List TermChange) (tm : TermState) :
    tm.take round =
      match (round.filter fun c => decide (c.source = tm.source)).getLast? with
      | none => tm
      | some c => { source := tm.source, value := c.value, quality := c.quality, stamp := c.stamp, cause := c.cause } := by
  unfold TermState.take lastChange
  cases (round.filter fun c => decide (c.source = tm.source)).getLast? <;> rfl

theorem stopAtGreatest_toNat (n : Word32) : (stopAtGreatest n).toNat = min (2 ^ 32 - 1) (n.toNat + 1) := by
  unfold stopAtGreatest
  split
  · rename_i greatest
    rw [greatest]
    rfl
  · rename_i below
    have : n.toNat ≠ 0xFFFFFFFF := fun h => below (BitVec.eq_of_toNat_eq h)
    rw [BitVec.toNat_add]
    have := n.isLt
    show (n.toNat + 1) % 2 ^ 32 = _
    omega

/-- Settles O34: the table of R105, then an evaluation by its terms, then the round object by object. -/
theorem changeRecordMeetsTheQueue : Obligations.ChangeRecordMeetsTheQueue := by
  refine ⟨fun r limit m t small => ⟨fun normal room => ?_, fun normal full => ?_, fun overrun => ?_⟩,
    fun m round j o r changed hr hchanged => ⟨fun untouched => ?_, fun touched ts entry hts hentry => ?_⟩, fun s b round active => ?_⟩
  · simp only [ReportUnit.takeChange, normal]
    exact if_pos ⟨room, by omega⟩
  · simp only [ReportUnit.takeChange, normal]
    exact if_neg (by omega)
  · have lost : r.takeChange limit m t =
        { r with lostCount := stopAtGreatest r.lostCount, lastLost := some t, changesLost := r.changesLost + 1 } := by
      simp only [ReportUnit.takeChange, overrun]
    rw [lost]
    exact ⟨rfl, overrun, stopAtGreatest_toNat _, rfl, rfl, rfl⟩
  · have none_touched : ¬o.terms.any (TermState.touched round) = true := by
      simp only [List.any_eq_true, TermState.touched, lastChange_isSome, ← hchanged]
      exact fun ⟨tm, htm, h⟩ => untouched tm htm h
    rw [hr]
    exact if_neg none_touched
  · have any_touched : o.terms.any (TermState.touched round) = true := by
      simp only [List.any_eq_true, TermState.touched, lastChange_isSome, ← hchanged]
      exact touched
    have taken : ts = o.terms.map (TermState.take round) := by
      rw [hts]
      exact List.map_congr_left fun tm _ => (tm.take_eq round).symm
    have state : r.1 = { terms := ts, entry := shownEntry m (m.objectEntry j) ts } := by rw [hr, evaluateObject_state, if_pos any_touched, taken]
    have shown : entry = shownEntry m (m.objectEntry j) ts := by rw [hentry, state]
    have quality : entry.quality = objectQuality ts := by rw [shown, shownEntry_quality]
    have record : r.2 = if entry ≠ o.entry then (latestTerm (ts.filter (TermState.touched round))).map fun t =>
        .change j entry.indication entry.quality t.stamp t.cause else none := by
      rw [hr, evaluateObject_record, ← hr, ← hentry, state]
      simp only [any_touched, true_and]
    obtain ⟨-, worst, attained⟩ := foldl_worse_spec ts .good
    refine ⟨by rw [state], ?_, ?_, fun row => ?_, fun fallback => ?_, fun same => ?_, fun other => ?_⟩
    · rw [quality]
      exact worst
    · rw [quality]
      exact attained
    · have index := combinationIndex_eq ts 0
      rw [pow_zero, one_mul] at index
      rw [quality] at row
      rw [shown, shownEntry_of_row _ _ row, ← index]
    · rw [quality] at fallback
      rw [shown, shownEntry_of_fallback _ _ fallback]
    · rw [record, if_neg (not_not.mpr same)]
    · rw [if_pos other] at record
      cases latest : latestTerm (ts.filter (TermState.touched round)) with
      | none =>
        have empty := (latestTerm_eq_none _).mp latest
        obtain ⟨tm, htm, h⟩ := List.any_eq_true.mp any_touched
        have : tm.take round ∈ ts.filter (TermState.touched round) :=
          List.mem_filter.mpr ⟨taken ▸ List.mem_map_of_mem htm, by rwa [TermState.touched, TermState.take_source]⟩
        rw [empty] at this
        exact absurd this List.not_mem_nil
      | some tm =>
        have touched_iff (u : TermState) : u.touched round = true ↔ changed u := by
          rw [TermState.touched, lastChange_isSome, hchanged]
        obtain ⟨k, hk, isChanged, latest_of⟩ := latestTerm_filter_spec _ _ _ latest
        refine ⟨k, tm, hk, (touched_iff tm).mp isChanged, by rw [record, latest]; rfl, fun i u hu h => latest_of i u hu ((touched_iff u).mpr h)⟩
  · simp only [State.runRound, active, evaluateFrom_eq, Nat.zero_add]
    rfl

/-! ### SET_TIME (R102) -/

/-- A setting of the time base: what it loads, and where the TIME_SET marker goes (R102, R106). -/
theorem ReportUnit.setTime_queue {r : ReportUnit} (t : Stamp) :
    (r.queue.length < 512 → (r.setTime t).queue = r.queue ++ [.timeSet t r.timeBase])
      ∧ (r.queue.length = 512 → (r.setTime t).markersLost = r.markersLost + 1) := by
  refine ⟨fun room => ?_, fun full => ?_⟩
  · rw [ReportUnit.setTime, ReportUnit.offerMarker_of_room { r with timeBase := t, timeValid := true } _ room]
  · rw [ReportUnit.setTime, ReportUnit.offerMarker_of_no_room { r with timeBase := t, timeValid := true } _ full.ge]

/-- What a setting of the time base leaves (R102): the round of a first setting changes the image and the queue's tail alone. -/
theorem State.setTime_spec (s : State) (t : Stamp) :
    (s.setTime t).report.timeBase = t ∧ (s.setTime t).report.timeValid = true
      ∧ (s.report.setTime t).queue <+: (s.setTime t).report.queue
      ∧ (s.setTime t).report.markersLost = (s.report.setTime t).markersLost
      ∧ (s.report.timeValid = false → (s.setTime t).evaluator.conditions.timeValid = true)
      ∧ (s.report.timeValid = true → (s.setTime t).evaluator = s.evaluator)
      ∧ (s.setTime t).report.timer = s.report.timer
      ∧ { s.setTime t with evaluator := s.evaluator, report := s.report } = s := by
  unfold State.setTime
  dsimp only
  by_cases valid : s.report.timeValid = true
  · rw [if_pos valid]
    exact ⟨by simp [ReportUnit.setTime], by simp [ReportUnit.setTime], List.prefix_rfl, rfl, fun h => by simp [valid] at h, fun _ => rfl,
      by simp [ReportUnit.setTime], rfl⟩
  · rw [if_neg valid]
    have condition : (((Event.start { s with report := s.report.setTime t }).setCondition 6 true t).close).evaluator.conditions.get 6 = true := by
      rw [Event.close_condition _ _ (by decide), Event.setCondition_get _ _ _ _ (by decide)]
    have queue := ((Event.start { s with report := s.report.setTime t }).setCondition 6 true t).close_prefix
    refine ⟨by simp [Event.start, ReportUnit.setTime], by simp [Event.start, ReportUnit.setTime], ?_, by simp [Event.start],
      fun _ => condition, fun h => absurd h valid, by simp [Event.start, ReportUnit.setTime], by simp [Event.start]⟩
    rwa [Event.setCondition_report] at queue

/-- Settles O35. -/
theorem setTimeLoadsTheTimeBase : Obligations.SetTimeLoadsTheTimeBase := by
  intro s x rest new offered rights unchecked content
  have allowed : (s.rightsOf x.source).allowSetTime = true := by rcases rights with h | h <;> simp [h, Rights.allowSetTime]
  have loaded : BitVec.ofNat 48 (fieldAt x.taken.content 0 6) = new := by
    rw [RxMessage.taken_content, content, fieldAt_toBytes _ _ (by have := new.isLt; omega), BitVec.ofNat_toNat, BitVec.setWidth_eq]
  have step : exec .setTime s = .next (((s.afterTaking rest).setTime new).repliedTo x 0x20 .ok []) := by
    show Host.Outcome.next _ = _
    rw [State.management_unchecked _ offered allowed unchecked (by simp [exactly, content]), loaded]
    rfl
  obtain ⟨timeBase, timeValid, queue, markers, first, later, timer, frame⟩ := (s.afterTaking rest).setTime_spec new
  obtain ⟨placed, dropped⟩ := s.report.setTime_queue new
  refine ⟨_, step, timeBase, timeValid, fun room => ?_, fun full => ?_, first, later, timer, ?_, ?_⟩
  · rw [← placed room]
    exact queue
  · rw [← dropped full]
    exact markers
  · have desk := (congrArg State.desk frame :)
    exact congrArg (fun d : DeskPort => { d with sendList := d.sendList ++ [replyFrame x.source x.taken.tag 0x20 .ok []] }) desk
  · exact (congrArg (fun u : State => { u with desk := s.desk }) frame :)

end Sys2Proof.Machine
end

section
/-! The table store's requests and the end of a check (R146, R147, R150, R152, R154, R156, R178). -/

namespace Sys2Proof.Machine

/-! ### The fields of a content -/

theorem fieldAt_append_left {bs cs : List Byte} {i n : Nat} (h : i + n ≤ bs.length) : fieldAt (bs ++ cs) i n = fieldAt bs i n := by
  rw [fieldAt, fieldAt, List.drop_append_of_le_length (by omega), List.take_append_of_le_length (by simp; omega)]

theorem fieldAt_append_right {bs cs : List Byte} {i n : Nat} (h : bs.length = i) : fieldAt (bs ++ cs) i n = fieldAt cs 0 n := by
  simp [fieldAt, ← h]

theorem fieldAt_cons_succ (v : Byte) (bs : List Byte) (i n : Nat) : fieldAt (v :: bs) (i + 1) n = fieldAt bs i n := rfl

/-- Two fields of two bytes each, whatever follows them. -/
theorem fieldAt_two_fields {first count : Nat} (rest : List Byte) (hf : first < 65536) (hc : count < 65536) :
    fieldAt (toBytes 2 first ++ toBytes 2 count ++ rest) 0 2 = first
    ∧ fieldAt (toBytes 2 first ++ toBytes 2 count ++ rest) 2 2 = count := by
  constructor
  · rw [fieldAt_append_left (by simp), fieldAt_append_left (by simp), fieldAt_toBytes 2 first hf]
  · rw [fieldAt_append_left (by simp), fieldAt_append_right (by simp), fieldAt_toBytes 2 count hc]

/-! ### The coding of table kinds and banks (R177) -/

theorem tableKindOf_code (k : TableKind) : tableKindOf (BitVec.ofNat 8 k.code).toNat = some k := by cases k <;> rfl

theorem tableKindOf_eq_none {n : Nat} (h : ¬(1 ≤ n ∧ n ≤ 9)) : tableKindOf n = none := by
  unfold tableKindOf
  split <;> simp_all

theorem bankOf_code (n : BankName) : bankOf n.code.toNat = some n := by cases n <;> rfl

theorem bankOf_isSome_iff (n : Nat) : (bankOf n).isSome = true ↔ n = 1 ∨ n = 2 := by
  unfold bankOf
  split <;> simp_all

/-! ### WRITE_TABLE (R146) -/

section
variable {s : State} {x : RxMessage} {rest : List RxMessage} {code : Byte} {first count : Nat} {payload : List Byte}

/-- What WRITE_TABLE does with a content of its form, check by check. -/
theorem exec_writeTable_offers (offered : s.offers x rest 0x10) (rights : s.rightsOf x.source = .maintain)
    (hf : first < 65536) (hc : count < 65536)
    (content : x.content = code :: (toBytes 2 first ++ toBytes 2 count ++ payload)) :
    exec .writeTable s = .next (match tableKindOf code.toNat with
      | none => (s.afterTaking rest).repliedTo x 0x10 .badFormat []
      | some k =>
        if (s.afterTaking rest).tablesBusy then (s.afterTaking rest).repliedTo x 0x10 .busy []
        else if k.entries < first + count then (s.afterTaking rest).repliedTo x 0x10 .badIndex []
        else if count = 0 ∨ 1024 < payload.length ∨ payload.length ≠ count * k.entrySize then
          (s.afterTaking rest).repliedTo x 0x10 .badFormat []
        else s.answeredWithStandby x rest 0x10 (s.tables.standby.load k first payload)) := by
  obtain ⟨first_field, count_field⟩ := fieldAt_two_fields payload hf hc
  have payload_field : x.content.drop 5 = payload := by simp [content, List.drop_append]
  show Host.Outcome.next _ = _
  rw [s.management_taken x rest _ _ _ _ offered (Rights.allowMaintain_of_maintain rights) (by simp [content, writeForm]; omega)]
  simp only [RxMessage.taken_content, payload_field]
  rw [content, fieldAt_byte, fieldAt_cons_succ, fieldAt_cons_succ, first_field, count_field]
  rfl

end

/-- Settles O37. -/
theorem writeTableReplacesEntries : Obligations.WriteTableReplacesEntries := by
  intro s x rest k first count payload offered rights unchecked unswitched wf hf hc content inRange counted sized fits
  have free : ¬(s.afterTaking rest).tablesBusy = true := by simp [s.afterTaking_free rest unchecked unswitched]
  refine ⟨s.answeredWithStandby x rest 0x10 (s.tables.standby.load k first payload), ?_, ?_⟩
  · rw [exec_writeTable_offers offered rights hf hc content, tableKindOf_code]
    simp only [if_neg free, if_neg (Nat.not_lt.mpr inRange)]
    rw [if_neg (by omega)]
  · simp only [State.answeredWithStandby_tables, TableStore.standby_setStandby]
    exact ⟨Memory.read_writeBytes payload _ wf (k.entryAt first), rfl, Memory.wf_writeBytes payload _ wf _,
      s.tables.bank_setStandby _, s.tables.setStandby_selection _, s.tables.setStandby_check _,
      (s.tables.setStandby_switchPending _).trans unswitched, rfl, s.answeredWithStandby_frame x rest 0x10 _⟩

/-- Settles O38. -/
theorem writeTableRefusedInOrder : Obligations.WriteTableRefusedInOrder := by
  intro s x rest code first count payload offered rights hf hc content
  rw [exec_writeTable_offers offered rights hf hc content]
  refine ⟨fun unknown => by rw [unknown], fun k known => ?_⟩
  rw [known]
  refine ⟨fun busy => ?_, fun unchecked unswitched past => ?_, fun unchecked unswitched inRange bad => ?_⟩
  · simp only [if_pos (s.afterTaking_busy rest busy)]
  · simp [s.afterTaking_free rest unchecked unswitched, past]
  · simp only [s.afterTaking_free rest unchecked unswitched, if_neg (Nat.not_lt.mpr inRange), if_pos bad]
    rfl

/-! ### READ_TABLE (R147) -/

section
variable {s : State} {x : RxMessage} {rest : List RxMessage} {bank kind : Byte} {first count : Nat}

/-- What READ_TABLE does with a content of its length, check by check. -/
theorem exec_readTable_offers (offered : s.offers x rest 0x11) (rights : (s.rightsOf x.source).allowView = true)
    (hf : first < 65536) (hc : count < 65536) (content : x.content = bank :: kind :: (toBytes 2 first ++ toBytes 2 count)) :
    exec .readTable s = .next (match bankOf bank.toNat, tableKindOf kind.toNat with
      | some n, some k =>
        if count = 0 ∨ 1024 < count * k.entrySize then (s.afterTaking rest).repliedTo x 0x11 .badFormat []
        else if s.checking then (s.afterTaking rest).repliedTo x 0x11 .busy []
        else if k.entries < first + count then (s.afterTaking rest).repliedTo x 0x11 .badIndex []
        else (s.afterTaking rest).repliedTo x 0x11 .ok
          (x.content ++ (s.tables.bank n).memory.slice (k.entryAt first) (count * k.entrySize))
      | _, _ => (s.afterTaking rest).repliedTo x 0x11 .badFormat []) := by
  obtain ⟨first_field, count_field⟩ := fieldAt_two_fields [] hf hc
  rw [List.append_nil] at first_field count_field
  have bank_field : fieldAt x.content 0 1 = bank.toNat := by rw [content, fieldAt_byte]
  have kind_field : fieldAt x.content 1 1 = kind.toNat := by rw [content, fieldAt_second_byte]
  have first_in : fieldAt x.content 2 2 = first := by rw [content, fieldAt_cons_succ, fieldAt_cons_succ, first_field]
  have count_in : fieldAt x.content 4 2 = count := by rw [content, fieldAt_cons_succ, fieldAt_cons_succ, count_field]
  show Host.Outcome.next _ = _
  by_cases formed : readForm x.content = true
  · rw [s.management_taken x rest _ _ _ _ offered rights formed]
    simp only [RxMessage.taken_content, bank_field, kind_field, first_in, count_in]
    rfl
  · have unnamed : bankOf bank.toNat = none := by
      rw [readForm, bank_field] at formed
      simpa [exactly, content] using formed
    rw [s.management_offers x rest _ _ _ _ offered, unnamed]
    simp [rights, formed]

end

/-- Settles O39. -/
theorem readTableReturnsEntries : Obligations.ReadTableReturnsEntries := by
  constructor
  · intro s x rest n k first count offered rights unchecked hf hc content counted fits inRange
    rw [exec_readTable_offers offered rights hf hc content, bankOf_code, tableKindOf_code]
    simp only [unchecked, if_neg (Nat.not_lt.mpr inRange)]
    rw [if_neg (by omega), if_neg Bool.false_ne_true]
    rfl
  · intro s x rest bank kind first count offered rights hf hc content
    rw [exec_readTable_offers offered rights hf hc content]
    constructor
    · rintro (unnamed | unknown)
      · have : bankOf bank.toNat = none := by simpa using mt (bankOf_isSome_iff bank.toNat).mp unnamed
        simp only [this]
      · rw [tableKindOf_eq_none unknown]
        cases bankOf bank.toNat <;> rfl
    · intro k named known
      obtain ⟨n, isBank⟩ := Option.isSome_iff_exists.mp ((bankOf_isSome_iff bank.toNat).mpr named)
      simp only [isBank, known]
      refine ⟨fun bad => if_pos bad ▸ rfl, fun counted fits => ?_⟩
      rw [if_neg (by omega)]
      refine ⟨fun checking => by rw [if_pos checking], fun unchecked past => ?_⟩
      rw [unchecked, if_neg Bool.false_ne_true, if_pos past]

/-! ### CHECK_TABLES and SWITCH_TABLES (R150, R156) -/

/-- Settles O42. -/
theorem checkTablesOpensTheContext : Obligations.CheckTablesOpensTheContext := by
  intro s x rest offered rights content
  have taken : exec .checkTables s = .next (if (s.afterTaking rest).tablesBusy then (s.afterTaking rest).repliedTo x 0x14 .busy []
      else { s.afterTaking rest with
        tables := s.tables.openCheck x.taken (Config.checkDuration s.clock.drawn),
        clock := { s.clock with drawn := s.clock.drawn + 1 } }) := by
    show Host.Outcome.next _ = _
    rw [s.management_maintain x rest _ _ offered rights content]
    rfl
  rw [taken]
  constructor
  · intro busy
    rw [if_pos (s.afterTaking_busy rest busy)]
  · intro unchecked unswitched
    rw [if_neg (by simp [s.afterTaking_free rest unchecked unswitched])]
    refine ⟨_, _, rfl, rfl, rfl, rfl, rfl, rfl, rfl, rfl, rfl, Nat.min_le_left _ _, ?_, ?_, ?_, rfl, rfl⟩
    · exact s.tables.standby_setStandby { s.tables.standby with state := .checking }
    · exact s.tables.bank_setStandby { s.tables.standby with state := .checking }
    · exact s.tables.setStandby_selection { s.tables.standby with state := .checking }

/-- A switch accepted while the loop surveys or runs becomes pending, and nothing else changes (R157). -/
theorem State.acceptSwitch_of_looping {s : State} (looping : s.loop.state = .survey ∨ s.loop.state = .running) :
    s.acceptSwitch = s.onTables fun t => { t with switchPending := true } := by
  rcases looping with surveying | running
  · simp [State.acceptSwitch, surveying]
  · simp [State.acceptSwitch, running]

/-- What SWITCH_TABLES does once its message has been taken, check by check (R156). -/
theorem exec_switchTables_offers {s : State} {x : RxMessage} {rest : List RxMessage} {crc : Word32} (offered : s.offers x rest 0x15)
    (rights : s.rightsOf x.source = .maintain) (content : x.content = toBytes 4 crc.toNat) :
    exec .switchTables s = .next (if (s.afterTaking rest).tablesBusy then (s.afterTaking rest).repliedTo x 0x15 .busy []
      else match s.tables.standby.state with
        | .checkedGood r _ =>
          if r.crc.toNat ≠ crc.toNat then (s.afterTaking rest).repliedTo x 0x15 .crcMismatch []
          else ((s.afterTaking rest).repliedTo x 0x15 .ok []).acceptSwitch
        | _ => (s.afterTaking rest).repliedTo x 0x15 .notChecked []) := by
  show Host.Outcome.next _ = _
  rw [s.management_taken x rest _ _ _ _ offered (Rights.allowMaintain_of_maintain rights) (by simp [content, exactly])]
  simp only [RxMessage.taken_content, content, fieldAt_toBytes 4 crc.toNat crc.isLt]
  rfl

theorem Bank.crc_of_checkedGood {b : Bank} {r : CheckResult} {counts : CountSet} (h : b.state = .checkedGood r counts) :
    b.crc? = some r.crc := by simp [Bank.crc?, Bank.result?, h]

/-- Settles O43. -/
theorem switchTablesBecomesPending : Obligations.SwitchTablesBecomesPending := by
  intro s x rest crc offered rights content looping
  rw [exec_switchTables_offers offered rights content]
  refine ⟨fun busy => by rw [if_pos (s.afterTaking_busy rest busy)], fun unchecked unswitched => ?_⟩
  rw [if_neg (by simp [s.afterTaking_free rest unchecked unswitched])]
  refine ⟨fun unpassed => ?_, fun ⟨r, counts, good⟩ differs => ?_, fun ⟨r, counts, good⟩ agrees => ?_⟩
  · split
    next r counts good => exact absurd ⟨r, counts, good⟩ unpassed
    next => rfl
  · have : r.crc.toNat ≠ crc.toNat := fun same =>
      differs (Bank.crc_of_checkedGood good ▸ congrArg some (BitVec.eq_of_toNat_eq same))
    simp only [good, if_pos this]
  · have same : r.crc = crc := Option.some.inj ((Bank.crc_of_checkedGood good).symm.trans agrees)
    simp only [good, same, ne_eq, not_true_eq_false, if_false]
    rw [State.acceptSwitch_of_looping (s := (s.afterTaking rest).repliedTo x 0x15 .ok []) looping]
    exact ⟨_, rfl, rfl, rfl⟩

/-! ### CHECK_COMPLETION (R152, R154, R155, R178) -/

@[simp] theorem TableStore.bank_setBank_self (t : TableStore) (n : BankName) (b : Bank) : (t.setBank n b).bank n = b := by
  cases n <;> rfl

theorem TableStore.bank_setBank_of_ne (t : TableStore) {n m : BankName} (b : Bank) (h : m ≠ n) : (t.setBank n b).bank m = t.bank m := by
  cases n <;> cases m <;> simp_all [TableStore.setBank, TableStore.bank]

theorem findingBytes_length (f : Option Finding) : (findingBytes f).length = 4 := by cases f <;> simp [findingBytes]
theorem warningBytes_length (w : Option Warning) : (warningBytes w).length = 3 := by cases w <;> simp [warningBytes]

theorem checkResultBytes_length (state : Byte) (r : CheckResult) : (checkResultBytes state r).length = 16 := by
  simp [checkResultBytes, findingBytes_length, warningBytes_length]

theorem Memory.checkResult_firstError (m : Memory) : m.checkResult.firstError = firstFinding m.findings := by rw [Memory.checkResult]

theorem Memory.checkResult_errorCount_eq_zero (m : Memory) : m.checkResult.errorCount = 0 ↔ m.findings = [] := by
  simp [Memory.checkResult]

theorem Bank.checked_of_no_findings {b : Bank} (h : b.memory.findings = []) :
    b.checked.state = .checkedGood b.memory.checkResult b.memory.countSet := by
  rw [Bank.checked, if_pos (b.memory.checkResult_errorCount_eq_zero.mpr h)]

theorem Bank.checked_of_findings {b : Bank} (h : b.memory.findings ≠ []) : b.checked.state = .checkedBad b.memory.checkResult := by
  rw [Bank.checked, if_neg (mt b.memory.checkResult_errorCount_eq_zero.mp h)]

/-- Whatever the check finds, the bank holds the result of its images. -/
theorem Bank.checked_result (b : Bank) : b.checked.result? = some b.memory.checkResult := by
  by_cases h : b.memory.findings = []
  · simp [Bank.result?, Bank.checked_of_no_findings h]
  · simp [Bank.result?, Bank.checked_of_findings h]

theorem Bank.checked_stateCode (b : Bank) : b.checked.state.code = if b.memory.findings = [] then 3 else 4 := by
  by_cases h : b.memory.findings = []
  · simp [BankState.code, Bank.checked_of_no_findings h, h]
  · simp [BankState.code, Bank.checked_of_findings h, h]

theorem State.completeCheck_desk (s : State) (c : CheckContext) :
    (s.completeCheck c).desk = { s.desk with
      sendList := s.desk.sendList ++ [replyFrame c.sender c.tag 0x14 .ok
        (checkResultBytes (s.tables.bank c.bank).checked.state.code (s.tables.bank c.bank).checked.memory.checkResult)] } := rfl

theorem State.completeCheck_frame (s : State) (c : CheckContext) :
    { s.completeCheck c with tables := s.tables, desk := s.desk } = s := rfl

/-- Settles O36: the bank under check holds the result of its images, which decides its state; the reply lays the result out. -/
theorem checkCompletionDecidesTheBank : Obligations.CheckCompletionDecidesTheBank := by
  rintro s c m checking rfl
  have completed : exec .checkCompletion s = .next (s.completeCheck c) := by
    show (match s.tables.check with | some c => Host.Outcome.next (s.completeCheck c) | none => .next s) = _
    rw [checking]
  have result := (s.tables.bank c.bank).checked_result
  have bank : (s.completeCheck c).tables.bank c.bank = (s.tables.bank c.bank).checked := by
    rw [State.completeCheck_tables]
    exact s.tables.bank_setBank_self c.bank _
  refine ⟨s.completeCheck c, (s.tables.bank c.bank).memory.checkResult, completed, by simp, ?_, ?_, ?_, ?_, ?_, rfl, rfl, rfl, ?_, rfl,
    ?_, ?_, ?_, ⟨_, s.completeCheck_desk c, checkResultBytes_length _ _, ?_⟩, s.completeCheck_frame c⟩
  · rw [bank, Bank.checked_memory]
  · rw [bank, result]
  · rw [bank, Bank.crc?, result]
    rfl
  · intro clean
    rw [bank]
    have good := Bank.checked_of_no_findings clean
    exact ⟨good, by rw [Bank.counts, good]⟩
  · intro found
    rw [bank]
    refine ⟨Bank.checked_of_findings found, ?_⟩
    rw [Memory.checkResult_firstError, Option.isSome_iff_ne_none]
    exact mt (firstFinding_eq_none _).mp found
  · rw [Memory.checkResult_firstError]
    exact firstFinding_least _
  · intro n other
    rw [State.completeCheck_tables]
    exact s.tables.bank_setBank_of_ne _ other
  · rw [State.completeCheck_tables]
    exact s.tables.setBank_selection c.bank _
  · rw [State.completeCheck_tables]
    exact s.tables.setBank_switchPending c.bank _
  · rw [Bank.checked_stateCode, Bank.checked_memory, checkResultBytes]
    cases (s.tables.bank c.bank).memory.checkResult.firstError <;>
      cases (s.tables.bank c.bank).memory.checkResult.firstWarning <;>
      simp [findingBytes, warningBytes, Memory.checkResult]

end Sys2Proof.Machine
end

section
/-! The desk port: the MAC, the order of a request's checks, and the statistics (R162, R164 to R168, R171). -/

namespace Sys2Proof.Machine

/-! ### The MAC (R162, R164) -/

/-- Settles O45. -/
theorem receivedFrameIsSorted : Obligations.ReceivedFrameIsSorted := by
  intro s frame up
  have received : exec (.deskFrameReceived frame) s = .next (s.onDesk fun d => d.receive frame) := rfl
  rw [received]
  refine ⟨fun bad => ?_, fun good filtered => ?_, ?_⟩
  · simp [State.onDesk, DeskPort.receive, up, bad]
  · simp [State.onDesk, DeskPort.receive, up, good, if_pos filtered]
  · rintro good own etherType x rfl
    simp only [State.onDesk, DeskPort.receive, up, good, own, etherType, DeskPort.offer]
    simp only [Bool.not_true, Bool.false_eq_true, ne_eq, not_true_eq_false, or_self, if_false]
    split
    · rfl
    · split <;> rfl

/-- What a sent frame begins with, before its padding and its FCS (R177). -/
theorem TxFrame.wireBytes_prefix (f : TxFrame) (own : Mac) :
    toBytes 6 f.destination.toNat ++ toBytes 6 own.toNat ++ [0xB7, 0xE2, f.kind] ++ toBytes 2 f.tag.toNat
      ++ toBytes 2 f.content.length ++ f.content <+: f.wireBytes own := by
  have body : toBytes 6 f.destination.toNat ++ toBytes 6 own.toNat ++ [0xB7, 0xE2, f.kind] ++ toBytes 2 f.tag.toNat
      ++ toBytes 2 f.content.length ++ f.content = toBytes 6 f.destination.toNat ++ toBytes 6 own.toNat ++ [0xB7, 0xE2] ++ f.message := by
    simp [TxFrame.message]
  rw [body]
  exact (List.prefix_append _ _).trans (List.prefix_append _ _)

/-- Settles O46. -/
theorem framesLeaveInOrder : Obligations.FramesLeaveInOrder := by
  intro s f rest waiting
  refine ⟨s.onDesk DeskPort.sendHead, rfl, ?_⟩
  cases up : s.desk.linkUp with
  | true =>
    have sent : s.desk.sendHead = { s.desk with sendList := rest, wire := f.wireBytes s.desk.ownAddress } := by
      simp [DeskPort.sendHead, waiting, up]
    rw [State.onDesk, sent]
    exact ⟨rfl, fun _ => ⟨rfl, f.wireBytes_prefix _⟩, fun down => absurd down (by simp), rfl⟩
  | false =>
    have unsent : s.desk.sendHead = { s.desk with sendList := rest, notSent := s.desk.notSent + 1 } := by
      simp [DeskPort.sendHead, waiting, up]
    rw [State.onDesk, unsent]
    exact ⟨rfl, fun up => absurd up (by simp), fun _ => ⟨rfl, rfl⟩, rfl⟩

/-! ### Statistics (R171) -/

theorem flatMap_toBytes_length {α : Type} (w : Nat) (f : α → Nat) (xs : List α) :
    (xs.flatMap fun x => toBytes w (f x)).length = xs.length * w := by
  induction xs with
  | nil => simp
  | cons x xs ih => simp [ih, Nat.succ_mul, Nat.add_comm]

/-- A text of three parts, cut at the lengths of the first two. -/
theorem three_parts {α : Type} {xs ys zs : List α} {n m : Nat} (hx : xs.length = n) (hy : ys.length = m) :
    (xs ++ (ys ++ zs)).take n = xs ∧ ((xs ++ (ys ++ zs)).drop n).take m = ys ∧ (xs ++ (ys ++ zs)).drop (n + m) = zs := by
  simp [← hx, ← hy]

/-- The data of READ_STATISTICS in its three parts. -/
theorem State.statisticsData_parts (s : State) :
    s.statisticsData = [s.desk.fcsErrors, s.desk.malformed, s.desk.overflows, s.desk.controlDropped, s.desk.notSent,
        s.loop.sweepsSent, s.loop.sweepsLost].flatMap (fun w => toBytes 4 w.toNat)
      ++ ((List.range 32).flatMap (fun p => toBytes 4 (s.loop.position p).corrupt.toNat)
      ++ [s.loop.upTime, s.report.framesSent, s.report.changesLost, s.report.markersLost, s.request.discarded].flatMap
          (fun w => toBytes 4 w.toNat)) := by
  rw [State.statisticsData, List.flatMap_append, List.flatMap_append, List.flatMap_map, List.append_assoc]

/-- Settles O49. -/
theorem statisticsAreReadAndCleared : Obligations.StatisticsAreReadAndCleared := by
  intro s x rest content unchecked
  constructor
  · intro offered rights
    refine ⟨s.statisticsData, ?_, ?_⟩
    · show Host.Outcome.next _ = _
      rw [State.management_unchecked _ offered rights unchecked (by simp [exactly, content])]
      rfl
    · rw [s.statisticsData_parts]
      have last (ws : List Word32) := flatMap_toBytes_length 4 BitVec.toNat ws
      have middle := flatMap_toBytes_length 4 (fun p => (s.loop.position p).corrupt.toNat) (List.range 32)
      refine ⟨?_, three_parts (last _) middle⟩
      rw [List.length_append, List.length_append, last, middle, last]
      rfl
  · intro offered rights
    refine ⟨(s.afterTaking rest).clearStatistics.repliedTo x 0x04 .ok [], ?_, rfl, rfl, rfl, rfl, rfl, rfl⟩
    show Host.Outcome.next _ = _
    rw [State.management_unchecked _ offered (Rights.allowMaintain_of_maintain rights) unchecked (by simp [exactly, content])]
    rfl

/-! ### Rights, form and BUSY (R165 to R168) -/

/-- The command is the taking of a management request of kind `kind`: beyond `allowed` it is refused, and not of the form `form` it is
malformed; where it is one of R168's second step, its owner answers BUSY during a check. -/
def takesRequest (i : Instr) (kind : Byte) (allowed : Rights → Bool) (form : List Byte → Bool) : Prop :=
  ∃ rule : State → Taken → State, (∀ s, exec i s = .next (s.management kind allowed form rule))
    ∧ (i ∈ busyDuringCheck → ∀ s x, s.checking = true → rule s x = s.refuse x kind .busy)

theorem State.unlessChecking_of_checking {s : State} (x : Taken) (kind : Byte) (rule : State → Taken → State)
    (checking : s.checking = true) : s.unlessChecking x kind rule = s.refuse x kind .busy := if_pos checking

/-- A request of the second step of R168. -/
theorem takesRequest_unlessChecking {i : Instr} {kind : Byte} {allowed : Rights → Bool} {form form' : List Byte → Bool}
    {rule : State → Taken → State} (sameForm : form' = form)
    (owned : ∀ s, exec i s = .next (s.management kind allowed form' fun s x => s.unlessChecking x kind rule)) :
    takesRequest i kind allowed form :=
  sameForm ▸ ⟨_, owned, fun _ s x => s.unlessChecking_of_checking x kind rule⟩

/-- A request whose owner answers during a check too, or has a check of its own for it. -/
theorem takesRequest_always {i : Instr} {kind : Byte} {allowed : Rights → Bool} {form form' : List Byte → Bool}
    {rule : State → Taken → State} (sameForm : form' = form) (owned : ∀ s, exec i s = .next (s.management kind allowed form' rule))
    (always : i ∉ busyDuringCheck) : takesRequest i kind allowed form :=
  sameForm ▸ ⟨rule, owned, fun busy => absurd busy always⟩

theorem fieldAt_zero_one (c : List Byte) : fieldAt c 0 1 = (byteAt c 0).toNat := by
  cases c <;> simp [fieldAt, beNat, byteAt]

theorem restartForm_eq : restartForm = fun c => decide (c.length = 1 ∧ (byteAt c 0).toNat ≤ 1) := by
  funext c
  simp only [restartForm, exactly, Nat.lt_succ_iff, Bool.decide_and]

theorem forceForm_eq : forceForm = fun c => decide (c.length = 3 ∧ (byteAt c 2).toNat ≤ 1) := by
  funext c
  simp only [forceForm, exactly, Nat.lt_succ_iff, Bool.decide_and]

theorem readForm_eq : readForm = fun c => decide (c.length = 6 ∧ ((byteAt c 0).toNat = 1 ∨ (byteAt c 0).toNat = 2)) := by
  funext c
  rw [readForm, fieldAt_zero_one, Bool.eq_iff_iff]
  simp [exactly, bankOf_isSome_iff]

/-- Every management request of the table is taken by its command. -/
theorem managementRequests_taken {i : Instr} {kind : Byte} {allowed : Rights → Bool} {form : List Byte → Bool}
    (listed : (i, kind, allowed, form) ∈ managementRequests) : takesRequest i kind allowed form := by
  cases i <;> simp only [managementRequests, List.mem_cons, Prod.mk.injEq, reduceCtorEq, false_and, true_and, or_false, false_or,
    List.not_mem_nil] at listed <;> obtain ⟨rfl, rfl, rfl⟩ := listed
  case restart => exact takesRequest_always restartForm_eq (fun _ => rfl) (by decide)
  case readTable => exact takesRequest_always readForm_eq (fun _ => rfl) (by decide)
  case forceInput => exact takesRequest_unlessChecking forceForm_eq (fun _ => rfl)
  case readStatistics | clearStatistics | setTime | releaseInput | readmitCard | resurvey | measureFlasher | clearOutputBlock =>
    exact takesRequest_unlessChecking rfl (fun _ => rfl)
  case identify | readStatus | writeTable | copyActive | clearStandby | checkTables | switchTables =>
    exact takesRequest_always rfl (fun _ => rfl) (by decide)

/-- Settles O50. -/
theorem rightsComeFirstThenBusy : Obligations.RightsComeFirstThenBusy := by
  intro i kind allowed form listed s x rest offered
  obtain ⟨rule, owned, busy⟩ := managementRequests_taken listed
  rw [owned, s.management_offers x rest kind allowed form rule offered]
  refine ⟨fun beyond => ?_, fun within malformed => ?_, fun second within formed checking => ?_⟩
  · simp [beyond]
  · simp [within, malformed]
  · simp [within, formed, busy second (s.afterTaking rest) x.taken checking]

/-- A control message without the right or the form is dropped and counted (R167). -/
theorem State.control_dropped {s : State} {x : RxMessage} {rest : List RxMessage} {kind : Byte} {form : List Byte → Bool}
    {rule : State → Taken → State} (offered : s.offers x rest kind)
    (bad : s.rightsOf x.source ≠ .control ∨ form x.content = false) :
    s.control kind form rule
      = { s with desk := { s.desk with receiveQueue := rest, controlDropped := s.desk.controlDropped + 1 } } := by
  rw [s.control_offers x rest kind form rule offered, if_neg]
  · rfl
  · rintro ⟨control, formed⟩
    rcases bad with other | malformed
    · exact other control
    · simp [formed] at malformed

theorem keepaliveForm_eq :
    keepaliveForm = fun c => decide (c.length = 1 + (byteAt c 0).toNat) && decide ((byteAt c 0).toNat ≤ 60) := by
  funext c
  rw [keepaliveForm, Bool.eq_iff_iff]
  simp only [Bool.and_eq_true, decide_eq_true_eq]
  omega

/-- Settles O51. -/
theorem unknownAnsweredAndControlDropped : Obligations.UnknownAnsweredAndControlDropped := by
  constructor
  · intro s x rest waiting unknown
    have taken : s.takeMessage (fun k => !knownKinds.contains k) = some (x.taken, s.afterTaking rest) :=
      s.takeMessage_offers x rest x.kind _ ⟨waiting, rfl⟩ (by simpa using unknown)
    have head : s.desk.receiveQueue.head? = some x := by rw [waiting]; rfl
    show execUnknownKind s = _
    rw [execUnknownKind, taken, head]
    rfl
  · intro i kind form listed s x rest offered bad
    simp only [List.mem_cons, Prod.mk.injEq, List.not_mem_nil, or_false] at listed
    rcases listed with ⟨rfl, rfl, rfl⟩ | ⟨rfl, rfl, rfl⟩ | ⟨rfl, rfl, rfl⟩
    · exact congrArg Host.Outcome.next (State.control_dropped offered (by rwa [keepaliveForm_eq]))
    · exact congrArg Host.Outcome.next (State.control_dropped offered bad)
    · exact congrArg Host.Outcome.next (State.control_dropped offered bad)

end Sys2Proof.Machine
end

section
/-! Sweeps as they are due: the next sweep sent, a sweep lost, the entry to DOWN, and the surveys that wait (R1, R3, R11, R14, R15, R17,
R18, R20, R21, R23, R128 to R133). -/

namespace Sys2Proof.Machine

/-! ### A sweep sent (R1) -/

section
variable {s : State} {b : Bank}

theorem State.sendSweep_loop (active : s.active? = some b) :
    s.sendSweep.loop = s.loop.sent (s.nextSweep b.memory) b.memory.sweepPeriod
      (sweepFrame (s.nextSweep b.memory) b.memory.outputPositions s.commandedOn) := by
  rw [s.sendSweep_active_eq b active]
  rfl

theorem State.sendSweep_request (active : s.active? = some b) : s.sendSweep.request = (s.sweepSent b s.commandedOn).request := by
  rw [s.sendSweep_active_eq b active]
  rfl

theorem State.sendSweep_frame (s : State) : { s.sendSweep with loop := s.loop, request := s.request } = s := by
  unfold State.sendSweep
  split <;> rfl

theorem State.nextSweep_of_survey (m : Memory) (surveying : s.loop.state = .survey) :
    s.nextSweep m
      = { kind := .survey, number := s.loop.sweepNumber, phase := s.loop.phase, mask := 0xFFFFFFFF#32, time := s.report.timeBase } := by
  simp [State.nextSweep, surveying, LoopController.readMask, State.now]

theorem State.nextSweep_of_running (m : Memory) (running : s.loop.state = .running) :
    s.nextSweep m
      = { kind := .read, number := s.loop.sweepNumber + 1, phase := s.loop.phase,
          mask := positionMask fun p => decide ((s.loop.position p).judged = .active) && (m.phaseSet p).testBit s.loop.phase,
          time := s.report.timeBase } := by
  simp [State.nextSweep, running, LoopController.readMask, State.now, Memory.inPhase]

theorem Event.close_start (s : State) : (Event.start s).close = s := rfl

/-- With no switch pending, a survey that waits is applied and the next sweep leaves (R1). -/
theorem Event.applyAndSend_of_unswitched {e : Event} (unswitched : e.st.tables.switchPending = false) :
    e.applyAndSend = e.applyResurvey.close.sendSweep := by
  simp [Event.applyAndSend, unswitched]

/-- With nothing waiting and no sweep lost, a sweep due event is the next sweep alone. -/
theorem State.sweepDue_of_idle (landed : s.loop.inFlight = none) (up : s.loop.state ≠ .down) (b : Bank)
    (resurvey : s.loop.pendingResurvey = false) (readmit : s.loop.pendingReadmit = []) (unswitched : s.tables.switchPending = false) :
    s.sweepDue b = s.sendSweep := by
  have settled : (Event.start s).settleSweep b = Event.start s := by simp [Event.settleSweep, Event.start, landed]
  simp only [State.sweepDue, settled, Event.start_st]
  rw [if_neg up, Event.applyAndSend_of_unswitched unswitched, Event.applyResurvey_idle _ resurvey readmit, Event.close_start]

theorem exec_sweepDue {n : Nat} (active : s.active? = some b) (timed : s.loop.sweepTimer = some n) :
    exec .sweepDue s = .next (s.sweepDue b) := by
  show (match s.active?, s.loop.sweepTimer with | some b, some _ => Host.Outcome.next (s.sweepDue b) | _, _ => .next s) = _
  rw [active, timed]

end

/-! ### The frame of a sweep and what it carries (R2, R128, R133, R175) -/

theorem Sweep.headerBytes_length (sw : Sweep) : sw.headerBytes.length = 10 := by simp [Sweep.headerBytes]

/-- A sweep frame's header, check and sections, at their places (R175). -/
theorem sweepFrame_parts (sw : Sweep) (positions on : List Nat) :
    (sweepFrame sw positions on).take 12 = sw.headerBytes ++ [0, BitVec.ofNat 8 positions.length]
      ∧ (sweepFrame sw positions on).take 10 = sw.headerBytes
      ∧ ((sweepFrame sw positions on).drop 11).take 1 = [BitVec.ofNat 8 positions.length]
      ∧ ((sweepFrame sw positions on).drop 12).take 2
          = toBytes 2 (crc16 (sw.headerBytes ++ [BitVec.ofNat 8 positions.length] ++ sectionBytes positions on)).toNat
      ∧ (sweepFrame sw positions on).drop 14 = sectionBytes positions on := by
  have header := sw.headerBytes_length
  unfold sweepFrame
  generalize sw.headerBytes = h at header ⊢
  simp only [List.take_append, List.drop_append, List.length_append, toBytes_length, header]
  simp [header, List.drop_eq_nil_of_le (show h.length ≤ 12 by omega), List.drop_eq_nil_of_le (show h.length ≤ 14 by omega),
    List.take_of_length_le, List.drop_eq_nil_of_le]

/-- An output is commanded on by a step of an occupied slot that is ON (R128). -/
theorem State.mem_commandedOn {s : State} {b : Bank} (active : s.active? = some b) (o : Nat) :
    o ∈ s.commandedOn ↔ ∃ sl ∈ s.request.occupied, ∃ k : Nat,
      (b.memory.pointOutputs sl.point)[k]? = some o ∧ sl.steps[k]? = some .on := by
  simp only [State.commandedOn, active, List.mem_flatMap, Slot.mem_onOutputs]

theorem mem_outputKeys (positions : List Nat) (k : Nat) :
    k ∈ (positions.flatMap fun p => (List.range 16).map (outputKey p)) ↔ ∃ p ∈ positions, ∃ j, j < 16 ∧ outputKey p j = k := by
  simp

section
variable (s : State) (b : Bank) (on : List Nat)

/-- What each output carries once a sweep has left (R133). -/
theorem State.sweepSent_carriedOf (k : Nat) :
    (s.sweepSent b on).request.carriedOf k =
      if k ∈ b.memory.outputPositions.flatMap (fun p => (List.range 16).map (outputKey p)) then
        if (s.request.carriedOf k).state = some (decide (k ∈ on)) then s.request.carriedOf k else { state := some (decide (k ∈ on)), grace := 2 }
      else s.request.carriedOf k := by
  have carried := RequestEngine.carry_fold_carriedOf on (b.memory.outputPositions.flatMap fun p => (List.range 16).map (outputKey p))
    (s.request.bringUpToDate b (fun sl => ({ sl with count := sl.count + 1 }).updateSteps b) s.now) k
  rw [List.contains_eq_mem] at carried
  exact carried

theorem State.sweepSent_slotsFollow :
    s.slotsFollow (s.sweepSent b on) b fun sl =>
      { sl with count := sl.count + 1, steps := List.zipWith (stepAfter (sl.count + 1)) (b.pointCounts sl.point).steps sl.steps } := by
  have frame := RequestEngine.carry_fold_frame on (b.memory.outputPositions.flatMap fun p => (List.range 16).map (outputKey p))
    (s.request.bringUpToDate b (fun sl => ({ sl with count := sl.count + 1 }).updateSteps b) s.now)
  exact slotsFollow_bringUpToDate (congrArg RequestEngine.slots frame :) (congrArg RequestEngine.outcomes frame :)

end

/-- Settles O8. -/
theorem sweepDueSendsReadSweep : Obligations.SweepDueSendsReadSweep := by
  rintro s b n sw active timed running landed resurvey readmit unswitched rfl
  obtain ⟨start, header, count, check, sections⟩ := sweepFrame_parts (s.nextSweep b.memory) b.memory.outputPositions s.commandedOn
  have loop := State.sendSweep_loop active
  have request := State.sendSweep_request active
  have next := State.nextSweep_of_running b.memory running
  have loopOut := congrArg LoopController.loopOut loop
  simp only [LoopController.sent] at loopOut
  have carriedOf (k : Nat) : s.sendSweep.request.carriedOf k = _ := (congrArg (fun r => RequestEngine.carriedOf r k) request).trans
    (s.sweepSent_carriedOf b s.commandedOn k)
  refine ⟨s.sendSweep, ?_, ?_, ?_, ?_, ?_, ?_, State.mem_commandedOn active, ?_, ?_, ?_, ?_, s.sendSweep_frame⟩
  · rw [exec_sweepDue active timed, State.sweepDue_of_idle landed (by simp [running]) b resurvey readmit unswitched]
  · rw [loop, next]
    rfl
  · rw [loopOut, start, next]
    rfl
  · rw [loopOut, header, count, check, sections]
  · rw [loopOut, sections]
    rfl
  · intro p j hj
    exact outputBits_getLsbD s.commandedOn p j hj
  · have follow := s.sweepSent_slotsFollow b s.commandedOn
    simpa only [State.slotsFollow, request] using follow
  · intro p hp j hj
    rw [carriedOf, if_pos ((mem_outputKeys _ _).mpr ⟨p, hp, j, hj, rfl⟩)]
  · intro k apart
    rw [carriedOf, if_neg]
    intro hk
    obtain ⟨p, hp, j, hj, same⟩ := (mem_outputKeys _ _).mp hk
    exact apart p hp j hj same.symm
  · rw [request]
    have frame := s.sweepSent_request b s.commandedOn
    exact frame

/-! ### A sweep lost (R1, R11, R15, R17) -/

section
variable {l : LoopController} {m : Memory} {sw : Sweep}

/-- The loop controller as a lost sweep leaves it, before missed reads are counted (R1). -/
def LoopController.countLost (l : LoopController) : LoopController :=
  { l with sweepsLost := l.sweepsLost + 1, lostCount := l.lostCount + 1, inFlight := none }

theorem LoopController.loseSweep_of_read (read : sw.kind = .read) :
    l.loseSweep m sw = l.countLost.countMissed fun p => sw.mask.getLsbD p := by
  simp [LoopController.loseSweep, read, LoopController.countLost]

theorem LoopController.loseSweep_of_survey (survey : sw.kind = .survey) :
    l.loseSweep m sw = { l.countLost.countMissed (l.surveyMisses m sw.phase) with heldList := none } := by
  simp only [LoopController.loseSweep, survey]
  rfl

/-- A lost sweep counts missed reads in either loop state (R11, R17); it leaves every judgement as it was. -/
theorem LoopController.loseSweep_position (len : l.positions.length = 32) (p : Nat) (hp : p < 32) :
    (l.loseSweep m sw).position p = l.position p ∨ (l.loseSweep m sw).position p = (l.position p).miss := by
  have counted (which : Nat → Bool) := l.countLost.countMissed_position which len p hp
  cases kind : sw.kind with
  | read =>
    rw [LoopController.loseSweep_of_read kind, counted]
    split
    · exact .inr rfl
    · exact .inl rfl
  | survey =>
    rw [LoopController.loseSweep_of_survey kind]
    show (l.countLost.countMissed _).position p = _ ∨ (l.countLost.countMissed _).position p = _
    rw [counted]
    split
    · exact .inr rfl
    · exact .inl rfl

end

section
variable {s : State} {b : Bank} {sw : Sweep}

/-- A sweep lost with nothing waiting, not the third in a row: the next one leaves after the event of the loss (R1). -/
theorem State.sweepDue_of_lost (flight : s.loop.inFlight = some sw) (few : s.loop.lostCount < 2) (up : s.loop.state ≠ .down)
    (resurvey : s.loop.pendingResurvey = false) (readmit : s.loop.pendingReadmit = []) (unswitched : s.tables.switchPending = false) :
    s.sweepDue b = ((Event.start s).loseSweep b sw).close.sendSweep
      ∧ ((Event.start s).loseSweep b sw).close.loop = s.loop.loseSweep b.memory sw := by
  have settled : (Event.start s).settleSweep b = (Event.start s).loseSweep b sw := by simp [Event.settleSweep, flight]
  have loop : ((Event.start s).loseSweep b sw).st.loop = s.loop.loseSweep b.memory sw := by
    rw [Event.loseSweep_loop]
    exact if_neg (by simpa using few)
  have kept : { (s.loop.loseSweep b.memory sw) with
      sweepsLost := s.loop.sweepsLost, lostCount := s.loop.lostCount, inFlight := s.loop.inFlight, heldList := s.loop.heldList,
      positions := s.loop.positions } = s.loop := by
    cases kind : sw.kind with
    | read => rw [LoopController.loseSweep_of_read kind]; rfl
    | survey => rw [LoopController.loseSweep_of_survey kind]; rfl
  have state : (s.loop.loseSweep b.memory sw).state = s.loop.state := (congrArg LoopController.state kept :)
  have noResurvey : (s.loop.loseSweep b.memory sw).pendingResurvey = false := (congrArg LoopController.pendingResurvey kept :).trans resurvey
  have noReadmit : (s.loop.loseSweep b.memory sw).pendingReadmit = [] := (congrArg LoopController.pendingReadmit kept :).trans readmit
  obtain ⟨tables, -⟩ := (Event.start s).loseSweep_frame b sw
  refine ⟨?_, (Event.close_loop _).trans loop⟩
  simp only [State.sweepDue, settled, loop, state]
  rw [if_neg up, Event.applyAndSend_of_unswitched (by rw [tables]; exact unswitched),
    Event.applyResurvey_idle _ (by rw [loop, noResurvey]) (by rw [loop, noReadmit])]

/-- What an event of a lost sweep and the next sweep after it leave as they were. -/
theorem State.lost_and_sent_frame (s : State) (b : Bank) (sw : Sweep) :
    ((Event.start s).loseSweep b sw).close.active? = s.active? ∧ ((Event.start s).loseSweep b sw).close.report.timeBase = s.report.timeBase
      ∧ ((Event.start s).loseSweep b sw).close.sendSweep.tables = s.tables ∧ ((Event.start s).loseSweep b sw).close.sendSweep.desk = s.desk
      ∧ ((Event.start s).loseSweep b sw).close.sendSweep.clock = s.clock
      ∧ ((Event.start s).loseSweep b sw).close.sendSweep.pending = s.pending := by
  obtain ⟨tables, desk, clock, pending, report⟩ := (Event.start s).loseSweep_frame b sw
  simp [State.active?, tables, desk, clock, pending, report]

end

/-- Settles O9. -/
theorem lostSweepCountsMissedReads : Obligations.LostSweepCountsMissedReads := by
  constructor
  · intro s b n sw active timed running flight read few len resurvey readmit unswitched
    obtain ⟨due, lost⟩ := State.sweepDue_of_lost (b := b) flight few (by simp [running]) resurvey readmit unswitched
    obtain ⟨sameBank, -, kept⟩ := s.lost_and_sent_frame b sw
    rw [LoopController.loseSweep_of_read read] at lost
    have sent := State.sendSweep_loop (sameBank.trans active)
    have next := State.nextSweep_of_running b.memory ((congrArg LoopController.state lost).trans running)
    rw [lost] at sent next
    refine ⟨((Event.start s).loseSweep b sw).close.sendSweep, ?_, ?_⟩
    · rw [exec_sweepDue active timed, due]
    · rw [sent, next]
      exact ⟨rfl, rfl, running, rfl, rfl, ⟨_, rfl, rfl, rfl, rfl⟩, fun p hp => by
        refine (congrArg PositionRecord.missed (s.loop.countLost.countMissed_position _ len p hp)).trans ?_
        split <;> rfl, kept⟩
  · intro s b n sw active timed surveying flight survey few len resurvey readmit unswitched
    obtain ⟨due, lost⟩ := State.sweepDue_of_lost (b := b) flight few (by simp [surveying]) resurvey readmit unswitched
    obtain ⟨sameBank, time, kept⟩ := s.lost_and_sent_frame b sw
    rw [LoopController.loseSweep_of_survey survey] at lost
    have sent := State.sendSweep_loop (sameBank.trans active)
    have next := State.nextSweep_of_survey b.memory ((congrArg LoopController.state lost).trans surveying)
    rw [lost, time] at next
    rw [lost, next] at sent
    refine ⟨((Event.start s).loseSweep b sw).close.sendSweep, ?_, ?_⟩
    · rw [exec_sweepDue active timed, due]
    · rw [sent]
      refine ⟨rfl, rfl, surveying, rfl, rfl, rfl, rfl, fun p hp => ?_, kept⟩
      have position := s.loop.countLost.countMissed_position (s.loop.surveyMisses b.memory sw.phase) len p hp
      have misses : s.loop.surveyMisses b.memory sw.phase p = true
          ↔ (s.loop.position p).judged = .active ∧ (b.memory.phaseSet p).testBit sw.phase = true := by
        simp [LoopController.surveyMisses, Memory.inPhase]
      refine ⟨(congrArg PositionRecord.judged position).trans ?_, (congrArg PositionRecord.missed position).trans ?_⟩
      · split <;> rfl
      · by_cases counts : s.loop.surveyMisses b.memory sw.phase p = true
        · rw [if_pos counts, if_pos (misses.mp counts)]
          rfl
        · rw [if_neg counts, if_neg (mt misses.mpr counts)]
          rfl

/-! ### What an outage and a judgement leave (R43, R86, R118) -/

/-- The filter with the inputs of the positions that `which` picks UNKNOWN (R43). -/
def ContactFilter.unknownAt (c : ContactFilter) (m : Memory) (which : Nat → Bool) : ContactFilter :=
  { c with inputs := c.inputs.map fun y => if which (m.mapEntry y.1).position then (y.1, y.2.toUnknown) else y }

theorem ContactFilter.outage_eq (c : ContactFilter) (m : Memory) (p : Nat) (t : Stamp) :
    (c.outage m p t).1 = c.unknownAt m fun q => decide (q = p) := by
  simp only [ContactFilter.outage, ContactFilter.mapInputs, ContactFilter.unknownAt, decide_eq_true_eq]
  congr 1
  refine List.map_congr_left fun y _ => ?_
  split <;> rfl

theorem ContactFilter.unknownAt_none (c : ContactFilter) (m : Memory) : (c.unknownAt m fun _ => false) = c := by
  simp [ContactFilter.unknownAt]

/-- An input that is UNKNOWN already stays as it is (R43). -/
theorem ContactFilter.unknownAt_unknownAt (c : ContactFilter) (m : Memory) (which which' : Nat → Bool) :
    (c.unknownAt m which).unknownAt m which' = c.unknownAt m fun q => which q || which' q := by
  simp only [ContactFilter.unknownAt, List.map_map]
  congr 1
  refine List.map_congr_left fun y _ => ?_
  by_cases h : which (m.mapEntry y.1).position = true
  · simp [h, InputState.toUnknown]
  · simp [h]

/-- The inputs of a position that is picked hold no debounced and no settled value. -/
theorem ContactFilter.mem_unknownAt {c : ContactFilter} {m : Memory} {which : Nat → Bool} {y : Nat × InputState}
    (hy : y ∈ (c.unknownAt m which).inputs) (picked : which (m.mapEntry y.1).position = true) :
    y.2.debounced = none ∧ y.2.settled = none := by
  obtain ⟨x, -, rfl⟩ := List.mem_map.mp hy
  by_cases h : which (m.mapEntry x.1).position = true
  · simp [h, InputState.toUnknown]
  · simp [h] at picked

theorem State.outage_of_loop {s t : State} (same : t.loop = s.loop) (p : Nat) : t.outage p = s.outage p := by
  rw [State.outage, State.outage, same]

theorem Event.positionOutage_filter (e : Event) (b : Bank) (p : Nat) (t : Stamp) :
    (e.positionOutage b p t).st.filter = e.st.filter.unknownAt b.memory fun q => decide (q = p) := by
  simp [Event.positionOutage, ContactFilter.outage_eq]

theorem foldl_outage_filter (b : Bank) (t : Stamp) (ps : List Nat) (e : Event) :
    (ps.foldl (fun e p => if e.st.outage p then e.positionOutage b p t else e) e).st.filter
      = e.st.filter.unknownAt b.memory fun q => decide (q ∈ ps) && e.st.outage q := by
  induction ps generalizing e with
  | nil => simp [ContactFilter.unknownAt_none]
  | cons p ps ih =>
    rw [List.foldl_cons, ih]
    by_cases out : e.st.outage p = true
    · simp only [out, if_true]
      rw [Event.positionOutage_filter, ContactFilter.unknownAt_unknownAt]
      congr 1
      funext q
      rw [State.outage_of_loop (e.positionOutage_loop b p t)]
      by_cases same : q = p
      · simp [same, out]
      · simp [same]
    · simp only [out]
      congr 1
      funext q
      by_cases same : q = p
      · simp [same, out]
      · simp [same]

/-- At the end of an event's outages the inputs of every position in outage are UNKNOWN, and no other input has changed (R43). -/
theorem Event.outages_filter {e : Event} {b : Bank} (active : e.st.active? = some b) (t : Stamp) :
    (e.outages t).st.filter = e.st.filter.unknownAt b.memory fun q => decide (q < 32) && e.st.outage q := by
  simp only [Event.outages, active, foldl_outage_filter, List.mem_range]

/-- A condition handed on leaves the others as they were (R88). -/
theorem Event.setCondition_other (e : Event) {n c : Nat} (v : Bool) (t : Stamp) (hc : c < 8) (other : n ≠ c) :
    (e.setCondition c v t).st.evaluator.conditions.get n = e.st.evaluator.conditions.get n := by
  unfold Event.setCondition
  split
  · rfl
  · simp [Conditions.get_put _ _ _ _ hc, other]

/-- Authority is lost in an event that leaves the loop out of RUNNING (R118, R121). -/
theorem Event.judgeAll_authority {e : Event} (stopped : e.st.loop.state ≠ .running) (t : Stamp) :
    (e.judgeAll t).st.request.authority = false := by
  rw [Event.judgeAll, (Event.judgeAuthority_request _ t).2]
  simp [Reasons.isEmpty, State.reasonSet, stopped]

/-- LOOP_RUNNING after an event of the loop (R86). -/
theorem Event.judgeAll_loopRunning (e : Event) (t : Stamp) : (e.judgeAll t).st.evaluator.conditions.get 0 = e.st.loopRunning := by
  rw [Event.judgeAll, Event.judgeAuthority_condition _ t 0 (by decide), Event.judgeFlasher,
    Event.setCondition_other _ _ _ (by decide) (by decide), Event.judgeCards, Event.setCondition_other _ _ _ (by decide) (by decide),
    Event.judgeLoop, Event.setCondition_get _ _ _ _ (by decide)]

/-- The inputs at the end of an event of the loop: those of the positions in outage are UNKNOWN (R43). -/
theorem Event.outagesJudged_filter {e : Event} {b : Bank} (active : e.st.active? = some b) (t : Stamp) :
    ((e.outages t).judgeAll t).st.filter
      = e.st.filter.unknownAt b.memory fun q => decide (q < 32) && ((e.outages t).judgeAll t).st.outage q := by
  have loop : ((e.outages t).judgeAll t).st.loop = e.st.loop := by simp
  simp only [State.outage_of_loop loop, Event.judgeAll_filter, Event.outages_filter active]

theorem Event.loseSweep_filter {e : Event} {b : Bank} (active : e.st.active? = some b) (sw : Sweep) :
    (e.loseSweep b sw).st.filter = e.st.filter.unknownAt b.memory fun q => decide (q < 32) && (e.loseSweep b sw).st.outage q := by
  unfold Event.loseSweep
  exact Event.outagesJudged_filter (by simpa using active) sw.time

theorem Event.loseSweep_authority {e : Event} {b : Bank} {sw : Sweep} (stopped : (e.loseSweep b sw).st.loop.state ≠ .running) :
    (e.loseSweep b sw).st.request.authority = false := by
  unfold Event.loseSweep at stopped ⊢
  rw [Event.judgeAll_loop] at stopped
  exact Event.judgeAll_authority stopped sw.time

/-! ### The entry to DOWN (R18) -/

section
variable {s : State} {b : Bank} {sw : Sweep}

/-- The third lost sweep in a row with no switch pending is the event of the loss alone (R1, R18). -/
theorem State.sweepDue_of_third_lost (flight : s.loop.inFlight = some sw) (third : s.loop.lostCount = 2)
    (unswitched : s.tables.switchPending = false) :
    s.sweepDue b = ((Event.start s).loseSweep b sw).close
      ∧ ((Event.start s).loseSweep b sw).st.loop = (s.loop.loseSweep b.memory sw).enterDown := by
  have settled : (Event.start s).settleSweep b = (Event.start s).loseSweep b sw := by simp [Event.settleSweep, flight]
  have loop : ((Event.start s).loseSweep b sw).st.loop = (s.loop.loseSweep b.memory sw).enterDown := by
    rw [Event.loseSweep_loop]
    exact if_pos (by simp [third])
  obtain ⟨tables, -⟩ := (Event.start s).loseSweep_frame b sw
  refine ⟨?_, loop⟩
  simp only [State.sweepDue, settled, loop, tables]
  exact (if_pos rfl).trans (if_neg (by simp [unswitched]))

theorem exec_enterDown_of_third {n : Nat} (active : s.active? = some b) (timed : s.loop.sweepTimer = some n)
    (flight : s.loop.inFlight = some sw) (third : s.loop.lostCount = 2) : exec .enterDown s = .next (s.sweepDue b) := by
  show (if 3 ≤ s.loop.lostCount then Host.Outcome.next ((Event.start s).goDown s.now).close
    else match s.active?, s.loop.sweepTimer, s.loop.inFlight with
      | some b, some _, some _ => if s.loop.lostCount = 2 then .next (s.sweepDue b) else .next s
      | _, _, _ => .next s) = _
  rw [if_neg (by omega), active, timed, flight]
  exact if_pos third

end

theorem LoopController.enterDown_position (l : LoopController) (p : Nat) (hp : p < l.positions.length) :
    l.enterDown.position p = if (l.position p).judged = .active then { l.position p with missed := 3 } else l.position p := by
  rw [LoopController.position_eq_getElem _ p (by simpa [LoopController.enterDown] using hp), l.position_eq_getElem p hp]
  simp [LoopController.enterDown]

/-- Settles O10. -/
theorem thirdLostSweepEntersDown : Obligations.ThirdLostSweepEntersDown := by
  intro c either s b n sw active timed flight third unswitched len
  obtain ⟨due, loop⟩ := State.sweepDue_of_third_lost (b := b) flight third unswitched
  obtain ⟨tables, desk, clock, pending, -⟩ := (Event.start s).loseSweep_frame b sw
  have ran : exec c s = .next ((Event.start s).loseSweep b sw).close := by
    simp only [List.mem_cons, List.not_mem_nil, or_false] at either
    rcases either with rfl | rfl
    · rw [exec_sweepDue active timed, due]
    · rw [exec_enterDown_of_third active timed flight third, due]
  have counts : (s.loop.loseSweep b.memory sw).sweepsSent = s.loop.sweepsSent
      ∧ (s.loop.loseSweep b.memory sw).sweepsLost = s.loop.sweepsLost + 1 ∧ (s.loop.loseSweep b.memory sw).positions.length = 32 := by
    cases kind : sw.kind with
    | read =>
      rw [LoopController.loseSweep_of_read kind]
      exact ⟨rfl, rfl, (List.length_mapIdx ..).trans len⟩
    | survey =>
      rw [LoopController.loseSweep_of_survey kind]
      exact ⟨rfl, rfl, (List.length_mapIdx ..).trans len⟩
  obtain ⟨sent, lostCount, lostLen⟩ := counts
  have closed : ((Event.start s).loseSweep b sw).close.loop = (s.loop.loseSweep b.memory sw).enterDown := (Event.close_loop _).trans loop
  have judged (p : Nat) (hp : p < 32) : ((s.loop.loseSweep b.memory sw).position p).judged = (s.loop.position p).judged := by
    rcases LoopController.loseSweep_position (m := b.memory) (sw := sw) len p hp with same | missed
    · rw [same]
    · rw [missed, PositionRecord.miss]
  have down : (s.loop.loseSweep b.memory sw).enterDown.state = .down := rfl
  refine ⟨((Event.start s).loseSweep b sw).close, ran, ?_⟩
  rw [closed]
  refine ⟨rfl, rfl, rfl, rfl, rfl, rfl, rfl, sent, lostCount, fun p hp => ?_, ?_, ?_, ?_, ?_⟩
  · rw [LoopController.enterDown_position _ p (by omega)]
    by_cases on : (s.loop.position p).judged = .active
    · rw [if_pos ((judged p hp).trans on)]
      exact ⟨judged p hp, fun _ => rfl⟩
    · rw [if_neg (by rwa [judged p hp])]
      exact ⟨judged p hp, fun absurdly => absurd absurdly on⟩
  · intro y hy inRange
    rw [Event.close_filter, Event.loseSweep_filter (e := Event.start s) active sw] at hy
    exact ContactFilter.mem_unknownAt hy (by simp [inRange, State.outage, loop, down])
  · rw [Event.close_request]
    exact Event.loseSweep_authority (by simp [loop, down])
  · intro good
    have kept : RequestEngine.authorityGood ((Event.start s).loseSweep b sw).close.request :=
      (exec_reaches ran).keeps (fun u => u.request.authorityGood) (fun _ _ change => change.keeps_authorityGood) good
    refine kept ?_
    rw [Event.close_request]
    exact Event.loseSweep_authority (by simp [loop, down])
  · rw [Event.close_tables, Event.close_desk, Event.close_clock, Event.close_pending]
    exact ⟨tables, desk, clock, pending⟩

/-! ### Surveys that begin (R14, R18, R20, R21, R23) -/

/-- A RESURVEY or a READMIT_CARD waits (R20, R21). -/
def LoopController.surveyWaits (l : LoopController) : Prop := l.pendingResurvey = true ∨ l.pendingReadmit ≠ []

theorem LoopController.not_surveyWaits {l : LoopController} (h : ¬l.surveyWaits) : l.pendingResurvey = false ∧ l.pendingReadmit = [] := by
  simpa [LoopController.surveyWaits] using h

theorem Event.applyResurvey_of_waits {e : Event} (waits : e.st.loop.surveyWaits) :
    e.applyResurvey = (e.onState fun s => s.onLoop LoopController.resurveyed).judgeAll e.st.now := if_pos waits

theorem Event.applyResurvey_loop_of_waits {e : Event} (waits : e.st.loop.surveyWaits) : e.applyResurvey.st.loop = e.st.loop.resurveyed := by
  rw [Event.applyResurvey_of_waits waits, Event.judgeAll_loop]
  rfl

/-- What an applied RESURVEY or READMIT_CARD leaves as it was. -/
theorem Event.applyResurvey_frame (e : Event) :
    e.applyResurvey.st.tables = e.st.tables ∧ e.applyResurvey.st.desk = e.st.desk ∧ e.applyResurvey.st.clock = e.st.clock
      ∧ e.applyResurvey.st.pending = e.st.pending ∧ e.applyResurvey.st.report = e.st.report := by
  unfold Event.applyResurvey
  split
  · simp
  · exact ⟨rfl, rfl, rfl, rfl, rfl⟩

/-- Nothing waits after it, and a survey goes on as one (R20, R21). -/
theorem Event.applyResurvey_surveying {e : Event} (surveying : e.st.loop.state = .survey) :
    ∃ l : LoopController, e.applyResurvey.st.loop = l ∧ l.state = .survey ∧ l.pendingResurvey = false ∧ l.pendingReadmit = []
      ∧ l.sweepNumber = e.st.loop.sweepNumber ∧ l.phase = e.st.loop.phase ∧ l.sweepsSent = e.st.loop.sweepsSent
      ∧ l.restartDelay = e.st.loop.restartDelay
      ∧ (e.st.loop.heldList = none → l.heldList = none) ∧ (e.st.loop.excess = false → l.excess = false)
      ∧ (e.st.loop.retryWait = none → l.retryWait = none) := by
  by_cases waits : e.st.loop.surveyWaits
  · exact ⟨_, Event.applyResurvey_loop_of_waits waits, rfl, rfl, rfl, rfl, rfl, rfl, rfl, fun _ => rfl, fun _ => rfl, fun _ => rfl⟩
  · obtain ⟨resurvey, readmit⟩ := LoopController.not_surveyWaits waits
    rw [Event.applyResurvey_idle e resurvey readmit]
    exact ⟨_, rfl, surveying, resurvey, readmit, rfl, rfl, rfl, rfl, id, id, id⟩

/-- After what waits has been applied, the survey sweep of an event that surveys (R1, R14). -/
theorem Event.applyAndSend_survey {e : Event} {b : Bank} {l : LoopController} (active : e.st.active? = some b)
    (unswitched : e.st.tables.switchPending = false) (loop : e.applyResurvey.st.loop = l) (surveying : l.state = .survey) :
    ∃ frame, e.applyAndSend.loop = l.sent
        { kind := .survey, number := l.sweepNumber, phase := l.phase, mask := 0xFFFFFFFF#32, time := e.st.report.timeBase }
        b.memory.sweepPeriod frame
      ∧ e.applyAndSend.tables = e.st.tables ∧ e.applyAndSend.desk = e.st.desk ∧ e.applyAndSend.clock = e.st.clock
      ∧ e.applyAndSend.pending = e.st.pending := by
  obtain ⟨tables, desk, clock, pending, report⟩ := e.applyResurvey_frame
  have closed : e.applyResurvey.close.loop = l := (Event.close_loop _).trans loop
  have sameBank : e.applyResurvey.close.active? = some b := by
    rw [Event.close_active, State.active_of_tables tables]
    exact active
  have next := State.nextSweep_of_survey (s := e.applyResurvey.close) b.memory (by rw [closed]; exact surveying)
  rw [closed, Event.close_report_timeBase, report] at next
  have sent := State.sendSweep_loop sameBank
  rw [next, closed] at sent
  rw [Event.applyAndSend_of_unswitched unswitched]
  exact ⟨_, sent, by simp [tables, desk, clock, pending]⟩

theorem LoopController.resurveyed_position (l : LoopController) (p : Nat) (hp : p < l.positions.length) :
    l.resurveyed.position p =
      if p ∈ l.pendingReadmit ∧ (l.position p).judged = .isolated then { l.position p with judged := .missing, score := 0 }
      else l.position p := by
  rw [LoopController.position_eq_getElem _ p (by simpa [LoopController.resurveyed] using hp), l.position_eq_getElem p hp]
  simp [LoopController.resurveyed]

section
variable {s : State} {b : Bank} {n : Nat}

theorem exec_retryWaitExpiry (down : s.loop.state = .down) (waited : s.loop.retryWait = some n) :
    exec .retryWaitExpiry s = .next ((Event.start s).onState fun s => s.onLoop LoopController.enterSurvey).applyAndSend := by
  show (match s.loop.state, s.loop.retryWait with | .down, some _ => Host.Outcome.next _ | _, _ => .next s) = _
  rw [down, waited]

theorem exec_restartSurveyDelay (elapsed : s.loop.restartDelay = some 0) :
    exec .restartSurveyDelay s
      = .next ((Event.start s).onState fun s => s.onLoop fun l => { l with restartDelay := none }).applyAndSend := by
  show (match s.loop.restartDelay with | some 0 => Host.Outcome.next _ | _ => .next s) = _
  rw [elapsed]
  rfl

/-- A survey that waits is applied and its first sweep leaves (R1, R20, R21). -/
theorem State.sweepDue_of_waits (landed : s.loop.inFlight = none) (up : s.loop.state ≠ .down) (b : Bank) :
    s.sweepDue b = (Event.start s).applyAndSend := by
  have settled : (Event.start s).settleSweep b = Event.start s := by simp [Event.settleSweep, landed]
  simp only [State.sweepDue, settled]
  exact if_neg up

end

/-- Where a survey has waited, LOOP_RUNNING and authority are gone as its first sweep leaves (R86, R121). -/
theorem Event.applyAndSend_of_waits {e : Event} {b : Bank} (active : e.st.active? = some b) (unswitched : e.st.tables.switchPending = false)
    (waits : e.st.loop.surveyWaits) :
    e.applyAndSend.evaluator.conditions.get 0 = false ∧ e.applyAndSend.request.authority = false := by
  have sameBank : e.applyResurvey.close.active? = some b := by
    rw [Event.close_active, State.active_of_tables e.applyResurvey_frame.1]
    exact active
  rw [Event.applyAndSend_of_unswitched unswitched, State.sendSweep_evaluator, State.sendSweep_request sameBank,
    Event.close_condition _ 0 (by decide)]
  have sent := State.sweepSent_request e.applyResurvey.close b e.applyResurvey.close.commandedOn
  refine ⟨?_, (congrArg RequestEngine.authority sent :).trans ?_⟩
  · rw [Event.applyResurvey_of_waits waits, Event.judgeAll_loopRunning]
    rfl
  · rw [Event.close_request, Event.applyResurvey_of_waits waits]
    refine Event.judgeAll_authority ?_ _
    simp [LoopController.resurveyed, LoopController.enterSurvey]

/-- Settles O11. -/
theorem surveySweepBegins : Obligations.SurveySweepBegins := by
  intro s b n active unswitched
  refine ⟨fun down waited => ?_, fun surveying elapsed => ?_, fun timed landed up waits len => ?_,
    fun timed landed surveying resurvey readmit sw hsw => ?_⟩
  · obtain ⟨l, loop, state, resurvey, readmit, number, phase, sent, -, held, excess, waits⟩ :=
      Event.applyResurvey_surveying (e := (Event.start s).onState fun s => s.onLoop LoopController.enterSurvey) rfl
    obtain ⟨frame, after, kept⟩ := Event.applyAndSend_survey (b := b) active unswitched loop state
    refine ⟨_, exec_retryWaitExpiry down waited, ?_⟩
    rw [after, number, phase]
    exact ⟨state, held rfl, excess rfl, waits rfl, rfl, rfl, by rw [LoopController.sent, phase]; rfl,
      by rw [LoopController.sent, sent]; rfl, resurvey, readmit, kept⟩
  · obtain ⟨l, loop, state, -, -, number, phase, sent, delay, -⟩ :=
      Event.applyResurvey_surveying (e := (Event.start s).onState fun s => s.onLoop fun l => { l with restartDelay := none }) surveying
    obtain ⟨frame, after, kept⟩ := Event.applyAndSend_survey (b := b) active unswitched loop state
    refine ⟨_, exec_restartSurveyDelay elapsed, ?_⟩
    rw [after, number, phase]
    exact ⟨state, delay, rfl, rfl, by rw [LoopController.sent, phase]; rfl, by rw [LoopController.sent, sent]; rfl, kept⟩
  · have notDown : s.loop.state ≠ .down := by rcases up with h | h <;> simp [h]
    obtain ⟨running, authority⟩ := Event.applyAndSend_of_waits (e := Event.start s) active unswitched waits
    obtain ⟨frame, after, kept⟩ := Event.applyAndSend_survey (e := Event.start s) (b := b) active unswitched
      (Event.applyResurvey_loop_of_waits waits) rfl
    refine ⟨_, (exec_sweepDue active timed).trans (congrArg _ (State.sweepDue_of_waits landed notDown b)), ?_⟩
    rw [after]
    exact ⟨rfl, rfl, rfl, rfl, rfl, rfl, rfl, rfl, rfl, rfl, fun p hp => s.loop.resurveyed_position p (by omega), running, authority, kept⟩
  · have next := State.nextSweep_of_survey b.memory surveying
    refine ⟨s.sendSweep, ?_, ?_, s.sendSweep_frame⟩
    · rw [exec_sweepDue active timed, State.sweepDue_of_idle landed (by simp [surveying]) b resurvey readmit unswitched]
    · rw [State.sendSweep_loop active, next, hsw]
      rfl

end Sys2Proof.Machine
end

section
/-! Sweeps as they return: the reports of a READ sweep, one by one and settled, and the judgement of a survey sweep (R7 to R17, R134). -/

namespace Sys2Proof.Machine

/-! ### What a returned frame leaves of the loop controller -/

/-- Nothing of the loop controller has changed but its position records and EXCESS. -/
def LoopController.sameSweeps (l l' : LoopController) : Prop := { l' with positions := l.positions, excess := l.excess } = l

theorem LoopController.sameSweeps.trans {l l' l'' : LoopController} (h : l.sameSweeps l') (h' : l'.sameSweeps l'') : l.sameSweeps l'' := by
  have outer := congrArg (fun u : LoopController => { u with positions := l.positions, excess := l.excess }) h'
  exact outer.trans h

theorem LoopController.sameSweeps_sortReport (l : LoopController) (r : CardReport) : l.sameSweeps (l.sortReport r) := by
  unfold LoopController.sortReport
  split
  · split <;> rfl
  · rfl

theorem LoopController.sameSweeps_sortReports (rs : List CardReport) (l : LoopController) :
    l.sameSweeps (rs.foldl LoopController.sortReport l) := by
  induction rs generalizing l with
  | nil => rfl
  | cons r rs ih => exact (l.sameSweeps_sortReport r).trans (ih _)

/-- What a returned frame cannot change, and the loop controller's own part of it. -/
def State.sameSweeps (s t : State) : Prop :=
  s.loop.sameSweeps t.loop ∧ t.tables = s.tables ∧ t.desk = s.desk ∧ t.clock = s.clock ∧ t.pending = s.pending

theorem State.sameSweeps.trans {s t u : State} (h : s.sameSweeps t) (h' : t.sameSweeps u) : s.sameSweeps u := by
  obtain ⟨loop, tables, desk, clock, pending⟩ := h
  obtain ⟨loop', tables', desk', clock', pending'⟩ := h'
  exact ⟨loop.trans loop', tables'.trans tables, desk'.trans desk, clock'.trans clock, pending'.trans pending⟩

theorem State.sameSweeps_acceptReport (s : State) (b : Bank) (sw : Sweep) (r : CardReport) : s.sameSweeps (s.acceptReport b sw r) := by
  refine ⟨?_, s.acceptReport_tables b sw r, ?_⟩
  · rw [State.acceptReport_loop]
    rfl
  · unfold State.acceptReport
    dsimp only
    split
    · simp
    · split <;> simp

theorem State.sameSweeps_corruptRead (s : State) (sw : Sweep) (p : Nat) : s.sameSweeps (s.corruptRead sw p) := by
  refine ⟨?_, s.corruptRead_tables sw p, ?_⟩
  · rw [State.corruptRead_loop]
    rfl
  · unfold State.corruptRead
    dsimp only
    split <;> simp

/-! ### One report of a READ sweep (R8 to R12) -/

section
variable {b : Bank} {sw : Sweep} {w : FrameWalk} {r : CardReport}

/-- The state once a report has been sorted, whatever it reports (R8). -/
def FrameWalk.sorted (w : FrameWalk) (r : CardReport) : State := w.st.onLoop fun l => l.sortReport r

theorem FrameWalk.take_of_skipped (h : 32 ≤ r.position ∨ sw.mask.getLsbD r.position = false ∨ r.position ∈ w.outcomes) :
    FrameWalk.take b sw w r = { w with st := w.sorted r } :=
  if_pos (by simpa using h)

/-- A report of a position below 32 that the sweep asked and that has no outcome yet (R8). -/
structure FrameWalk.open (w : FrameWalk) (sw : Sweep) (r : CardReport) : Prop where
  below : r.position < 32
  asked : sw.mask.getLsbD r.position = true
  fresh : r.position ∉ w.outcomes

theorem FrameWalk.take_of_open (h : w.open sw r) :
    FrameWalk.take b sw w r =
      if !r.good then { w with st := (w.sorted r).corruptRead sw r.position, outcomes := r.position :: w.outcomes }
      else if ((w.sorted r).loop.position r.position).judged ≠ .active then { w with st := w.sorted r }
      else if b.memory.matchesCard r.position r.card then
        { w with
          st := (w.sorted r).acceptReport b sw r, outcomes := r.position :: w.outcomes, accepted := r.position :: w.accepted }
      else { w with st := w.sorted r, mismatch := true } :=
  if_neg (by simpa using ⟨h.below, h.asked, h.fresh⟩)

theorem FrameWalk.open_iff : w.open sw r ↔ ¬(32 ≤ r.position ∨ sw.mask.getLsbD r.position = false ∨ r.position ∈ w.outcomes) := by
  constructor
  · rintro ⟨below, asked, fresh⟩
    simp [below, asked, fresh]
  · intro h
    push Not at h
    obtain ⟨below, asked, fresh⟩ := h
    exact ⟨below, by simpa using asked, fresh⟩

theorem FrameWalk.sameSweeps_sorted : w.st.sameSweeps (w.sorted r) := ⟨w.st.loop.sameSweeps_sortReport r, rfl, rfl, rfl, rfl⟩

theorem FrameWalk.sameSweeps_take (b : Bank) (sw : Sweep) (w : FrameWalk) (r : CardReport) : w.st.sameSweeps (w.take b sw r).st := by
  by_cases skipped : 32 ≤ r.position ∨ sw.mask.getLsbD r.position = false ∨ r.position ∈ w.outcomes
  · rw [FrameWalk.take_of_skipped skipped]
    exact w.sameSweeps_sorted
  · rw [FrameWalk.take_of_open (FrameWalk.open_iff.mpr skipped)]
    split
    · exact w.sameSweeps_sorted.trans (State.sameSweeps_corruptRead _ _ _)
    · split
      · exact w.sameSweeps_sorted
      · split
        · exact w.sameSweeps_sorted.trans (State.sameSweeps_acceptReport _ _ _ _)
        · exact w.sameSweeps_sorted

theorem FrameWalk.sameSweeps_takes (b : Bank) (sw : Sweep) (rs : List CardReport) (w : FrameWalk) :
    w.st.sameSweeps (rs.foldl (FrameWalk.take b sw) w).st := by
  induction rs generalizing w with
  | nil => exact ⟨rfl, rfl, rfl, rfl, rfl⟩
  | cons r rs ih => exact (w.sameSweeps_take b sw r).trans (ih _)

theorem LoopController.sortReport_of_bad {l : LoopController} (bad : r.good = false) :
    l.sortReport r = l.modifyPosition r.position fun x => { x with corrupt := x.corrupt + 1 } := by
  simp [LoopController.sortReport, bad]

theorem LoopController.sortReport_of_good {l : LoopController} (good : r.good = true) :
    l.sortReport r = if 32 ≤ r.position then { l with excess := true } else l := by
  simp [LoopController.sortReport, good]

/-- A good report of a position below 32 leaves everything as it was (R8). -/
theorem FrameWalk.sorted_of_good (below : r.position < 32) (good : r.good = true) : w.sorted r = w.st := by
  rw [FrameWalk.sorted, State.onLoop, LoopController.sortReport_of_good good, if_neg (by omega)]

end

/-! ### A corrupt report (R10) -/

section
variable {s : State} {b : Bank} {sw : Sweep} {p : Nat}

/-- Below the score of isolation a corrupt report changes the loop controller alone (R10). -/
theorem State.corruptRead_of_low (low : (s.loop.position p).score + 8 < 64) (len : s.loop.positions.length = 32) (hp : p < 32) :
    s.corruptRead sw p = { s with loop := (s.corruptRead sw p).loop } := by
  rw [State.corruptRead_loop]
  unfold State.corruptRead
  dsimp only
  rw [if_neg]
  · rfl
  · rw [State.onLoop_loop, s.loop.position_modifyPosition p _ p len hp, if_pos rfl]
    exact Nat.not_le.mpr low

/-- A position that a corrupt report isolates is in outage, so that its inputs turn UNKNOWN (R10, R43). -/
theorem State.corruptRead_of_high (active : s.active? = some b) (high : 64 ≤ (s.loop.position p).score + 8)
    (len : s.loop.positions.length = 32) (hp : p < 32) {y : Nat × InputState} (hy : y ∈ (s.corruptRead sw p).filter.inputs)
    (of : (b.memory.mapEntry y.1).position = p) : y.2.debounced = none ∧ y.2.settled = none := by
  have out : (s.corruptRead sw p).outage p = true := by
    rw [State.outage, State.corruptRead_loop, s.loop.position_modifyPosition p _ p len hp, if_pos rfl, if_pos high]
    simp
  have isolates : s.corruptRead sw p = (((Event.start (s.onLoop fun l => l.modifyPosition p fun x =>
      { x with score := x.score + 8, judged := if 64 ≤ x.score + 8 then .isolated else x.judged })).outages sw.time).judgeAll
        sw.time).close := by
    unfold State.corruptRead
    dsimp only
    rw [if_pos]
    rw [State.onLoop_loop, s.loop.position_modifyPosition p _ p len hp, if_pos rfl]
    exact high
  rw [isolates, Event.close_filter, Event.outagesJudged_filter (by simpa using active)] at hy
  refine ContactFilter.mem_unknownAt hy ?_
  rw [isolates, State.outage_of_loop (Event.close_loop _)] at out
  rw [of, out, decide_eq_true hp]
  rfl

end

/-! ### An accepted report (R9, R39, R134) -/

section
variable {s : State} {b : Bank} {sw : Sweep} {r : CardReport}

theorem Event.takeBatch_pairs (e : Event) (b : Bank) (ns : List InputNotice) (read : Option (Nat × Stamp)) :
    (e.takeBatch b ns read).st.pairs = (takePairs b e.st.filter e.st.pairs ns read).1 := by
  simp [Event.takeBatch]

/-- An input card's report goes to the contact filter, the flasher monitor and the pair unit (R9, R39, R61, R70). -/
theorem State.acceptReport_of_input (input : b.memory.expectedType r.position = 1) {fed : ContactFilter × List InputNotice}
    (applied : fed = s.filter.applyReport b (s.flasher.period.getD 0) r.position (beNat r.values) r.supplyLow sw.time) :
    (s.acceptReport b sw r).filter = fed.1
      ∧ (s.acceptReport b sw r).flasher = s.flasher.takeReport b r.position s.filter fed.1
      ∧ (s.acceptReport b sw r).pairs = (takePairs b fed.1 s.pairs fed.2 (some (r.position, sw.time))).1 := by
  subst applied
  unfold State.acceptReport
  simp [input, Event.inputReport, Event.takeBatch_pairs]

/-- An output card's report, but with SUPPLY_LOW, goes to the readback check (R9, R134). -/
theorem State.acceptReport_of_output (output : b.memory.expectedType r.position = 2) :
    (s.acceptReport b sw r).filter = s.filter ∧ (s.acceptReport b sw r).flasher = s.flasher ∧ (s.acceptReport b sw r).pairs = s.pairs
      ∧ (s.acceptReport b sw r).request = if r.supplyLow then s.request
        else (s.request.checkCard r.position (fieldAt r.values 0 2)).endBlocked s.request b.memory sw.time := by
  unfold State.acceptReport
  cases low : r.supplyLow with
  | true => simp [output]
  | false => simp [output, Event.checkReadbacks_request]

end

theorem Memory.matchesCard_iff (m : Memory) (p : Nat) (c : Card) :
    m.matchesCard p c = true ↔ c.cardType.toNat = m.expectedType p ∧ c.identity &&& m.identityMask p = m.identityValue p := by
  simp [Memory.matchesCard]

section
variable {b : Bank} {sw : Sweep} {w : FrameWalk} {r : CardReport}

/-- A good report of a position below 32 is no change of its own (R8). -/
theorem FrameWalk.good_state (below : r.position < 32) (good : r.good = true) :
    ({ w.st with loop := w.st.loop.sortReport r } : State) = w.st := w.sorted_of_good below good

/-- A corrupt report of a position that was asked (R8, R10). -/
theorem FrameWalk.take_of_bad (opened : w.open sw r) (bad : r.good = false) (active : w.st.active? = some b)
    (len : w.st.loop.positions.length = 32) :
    (w.take b sw r).outcomes = r.position :: w.outcomes ∧ (w.take b sw r).accepted = w.accepted ∧ (w.take b sw r).mismatch = w.mismatch
      ∧ (w.take b sw r).st.loop.position r.position =
          { w.st.loop.position r.position with
            corrupt := (w.st.loop.position r.position).corrupt + 1, score := (w.st.loop.position r.position).score + 8,
            judged := if 64 ≤ (w.st.loop.position r.position).score + 8 then .isolated else (w.st.loop.position r.position).judged }
      ∧ (∀ q, q < 32 → q ≠ r.position → (w.take b sw r).st.loop.position q = w.st.loop.position q)
      ∧ ((w.st.loop.position r.position).score + 8 < 64 → { (w.take b sw r).st with loop := w.st.loop } = w.st)
      ∧ (64 ≤ (w.st.loop.position r.position).score + 8 → ∀ y ∈ (w.take b sw r).st.filter.inputs,
          (b.memory.mapEntry y.1).position = r.position → y.2.debounced = none ∧ y.2.settled = none) := by
  have below := opened.below
  have taken : w.take b sw r
      = { w with st := (w.sorted r).corruptRead sw r.position, outcomes := r.position :: w.outcomes } := by
    rw [FrameWalk.take_of_open opened, if_pos (by simp [bad])]
  have len' : (w.sorted r).loop.positions.length = 32 := by
    simpa [FrameWalk.sorted, LoopController.sortReport_of_bad bad, LoopController.modifyPosition] using len
  have sorted (q : Nat) (hq : q < 32) : (w.sorted r).loop.position q = if r.position = q
      then { w.st.loop.position q with corrupt := (w.st.loop.position q).corrupt + 1 } else w.st.loop.position q := by
    rw [FrameWalk.sorted, State.onLoop_loop, LoopController.sortReport_of_bad bad, w.st.loop.position_modifyPosition _ _ q len hq]
  have read (q : Nat) (hq : q < 32) := (w.sorted r).loop.position_modifyPosition r.position (fun x =>
    { x with score := x.score + 8, judged := if 64 ≤ x.score + 8 then .isolated else x.judged }) q len' hq
  rw [taken]
  refine ⟨rfl, rfl, rfl, ?_, fun q hq other => ?_, fun low => ?_, fun high y hy of => ?_⟩
  · show ((w.sorted r).corruptRead sw r.position).loop.position r.position = _
    rw [State.corruptRead_loop, read r.position below, sorted r.position below]
    simp
  · show ((w.sorted r).corruptRead sw r.position).loop.position q = _
    rw [State.corruptRead_loop, read q hq, sorted q hq, if_neg (Ne.symm other), if_neg (Ne.symm other)]
  · have onlyLoop := State.corruptRead_of_low (s := w.sorted r) (sw := sw) (p := r.position)
      (by rw [sorted r.position below, if_pos rfl]; exact low) len' below
    exact congrArg (fun u : State => { u with loop := w.st.loop }) onlyLoop
  · exact State.corruptRead_of_high (s := w.sorted r) active (by rw [sorted r.position below, if_pos rfl]; exact high) len' below hy of

/-- A report of the expected card at an ACTIVE position (R9, R39, R134). -/
theorem FrameWalk.take_of_accepted (opened : w.open sw r) (good : r.good = true)
    (on : (w.st.loop.position r.position).judged = .active) (matching : b.memory.matchesCard r.position r.card = true)
    (len : w.st.loop.positions.length = 32) :
    (w.take b sw r).outcomes = r.position :: w.outcomes ∧ (w.take b sw r).accepted = r.position :: w.accepted
      ∧ (w.take b sw r).mismatch = w.mismatch
      ∧ (w.take b sw r).st.loop.position r.position =
          { w.st.loop.position r.position with
            missed := 0, score := (w.st.loop.position r.position).score - 1, supplyLow := r.supplyLow }
      ∧ (∀ q, q < 32 → q ≠ r.position → (w.take b sw r).st.loop.position q = w.st.loop.position q)
      ∧ (b.memory.expectedType r.position = 1 → ∀ fed, fed =
            w.st.filter.applyReport b (w.st.flasher.period.getD 0) r.position (beNat r.values) r.supplyLow sw.time →
          (w.take b sw r).st.filter = fed.1 ∧ (w.take b sw r).st.flasher = w.st.flasher.takeReport b r.position w.st.filter fed.1
            ∧ (w.take b sw r).st.pairs = (takePairs b fed.1 w.st.pairs fed.2 (some (r.position, sw.time))).1)
      ∧ (b.memory.expectedType r.position = 2 → (w.take b sw r).st.filter = w.st.filter ∧ (w.take b sw r).st.flasher = w.st.flasher
          ∧ (w.take b sw r).st.pairs = w.st.pairs
          ∧ (w.take b sw r).st.request = if r.supplyLow then w.st.request
            else (w.st.request.checkCard r.position (fieldAt r.values 0 2)).endBlocked w.st.request b.memory sw.time) := by
  have below := opened.below
  have taken : w.take b sw r
      = { w with
          st := w.st.acceptReport b sw r, outcomes := r.position :: w.outcomes, accepted := r.position :: w.accepted } := by
    rw [FrameWalk.take_of_open opened, w.sorted_of_good below good]
    simp [good, on, matching]
  rw [taken]
  refine ⟨rfl, rfl, rfl, ?_, fun q hq other => ?_, fun input fed applied => State.acceptReport_of_input input applied,
    fun output => State.acceptReport_of_output output⟩
  · show (w.st.acceptReport b sw r).loop.position r.position = _
    rw [State.acceptReport_loop, w.st.loop.position_modifyPosition _ _ _ len below, if_pos rfl]
    rfl
  · show (w.st.acceptReport b sw r).loop.position q = _
    rw [State.acceptReport_loop, w.st.loop.position_modifyPosition _ _ _ len hq, if_neg (Ne.symm other)]

end

/-! ### The frame of a READ sweep -/

theorem exec_loopInFrame_of_return {s : State} {b : Bank} {sw : Sweep} {frame : List Byte} (active : s.active? = some b)
    (flight : s.loop.inFlight = some sw) (returned : isReturnOf b.memory.outputPositions.length frame sw = true) :
    exec (.loopInFrame frame) s = .next (s.takeFrame b sw frame) := by
  show execLoopInFrame frame s = _
  rw [execLoopInFrame, active, flight]
  exact if_pos returned

theorem exec_loopInFrame_of_other {s : State} {frame : List Byte}
    (other : ∀ b sw, s.active? = some b → s.loop.inFlight = some sw → isReturnOf b.memory.outputPositions.length frame sw = false) :
    exec (.loopInFrame frame) s = .next s := by
  show execLoopInFrame frame s = _
  unfold execLoopInFrame
  split
  · rename_i b sw active flight
    exact if_neg (by simp [other b sw active flight])
  · rfl

/-- The settling of a frame's outcomes: missed reads, and with a mismatch the survey (R8, R11, R12). -/
theorem FrameWalk.settle_position {w : FrameWalk} (len : w.st.loop.positions.length = 32) (sw : Sweep) (p : Nat) (hp : p < 32) :
    (w.settle sw).loop.position p =
      if sw.mask.getLsbD p = true ∧ p ∉ w.accepted then { w.st.loop.position p with missed := min 3 ((w.st.loop.position p).missed + 1) }
      else w.st.loop.position p := by
  have counted := w.st.loop.countMissed_position (fun p => sw.mask.getLsbD p && !w.accepted.contains p) len p hp
  have settled : (w.settle sw).loop.position p
      = (w.st.loop.countMissed fun p => sw.mask.getLsbD p && !w.accepted.contains p).position p := by
    rw [w.settle_loop sw]
    split <;> rfl
  rw [settled, counted]
  simp [PositionRecord.miss]

theorem FrameWalk.settle_frame (w : FrameWalk) (sw : Sweep) :
    (w.settle sw).tables = w.st.tables ∧ (w.settle sw).desk = w.st.desk ∧ (w.settle sw).clock = w.st.clock
      ∧ (w.settle sw).pending = w.st.pending := by
  simp [FrameWalk.settle]

theorem State.takeFrame_of_running {s : State} {b : Bank} {sw : Sweep} {frame : List Byte} (running : s.loop.state = .running) :
    s.takeFrame b sw frame = (s.onLoop fun l => l.takeReturn sw).readFrame b sw (frameReports frame) := by
  simp only [State.takeFrame, running]

theorem State.onLoop_takeReturn {s : State} {sw : Sweep} (read : sw.kind = .read) :
    (s.onLoop fun l => l.takeReturn sw)
      = { s with loop := { s.loop with lostCount := 0, inFlight := none, lastCompleted := sw.number } } := by
  simp [State.onLoop, LoopController.takeReturn, read]

/-- The settling changes the loop controller's position records, and on a mismatch what the entry to SURVEY changes. -/
theorem FrameWalk.settle_sameSweeps (w : FrameWalk) (sw : Sweep) :
    { (w.settle sw).loop with
        positions := w.st.loop.positions, state := w.st.loop.state, excess := w.st.loop.excess, heldList := w.st.loop.heldList,
        upTime := w.st.loop.upTime, retryWait := w.st.loop.retryWait } = w.st.loop
      ∧ ((w.settle sw).loop.state = w.st.loop.state ∨ (w.settle sw).loop.state = .survey) := by
  rw [w.settle_loop sw]
  split
  · exact ⟨rfl, .inr rfl⟩
  · exact ⟨rfl, .inl rfl⟩

/-- Settles O12. -/
theorem readSweepReturns : Obligations.ReadSweepReturns := by
  refine ⟨fun s frame other => exec_loopInFrame_of_other other, ?_, ?_, ?_, ?_⟩
  · intro s b sw frame active running flight read returned
    have taken : exec (.loopInFrame frame) s = .next (((frameReports frame).foldl (FrameWalk.take b sw)
        { st := { s with loop := { s.loop with lostCount := 0, inFlight := none, lastCompleted := sw.number } },
          outcomes := [], accepted := [], mismatch := false }).settle sw) := by
      rw [exec_loopInFrame_of_return active flight returned, State.takeFrame_of_running running, State.onLoop_takeReturn read,
        State.readFrame]
    refine ⟨taken, _, taken, ?_⟩
    generalize hw : (⟨{ s with loop := { s.loop with lostCount := 0, inFlight := none, lastCompleted := sw.number } }, [], [], false⟩ :
      FrameWalk) = start
    obtain ⟨loop, tables, desk, clock, pending⟩ := FrameWalk.sameSweeps_takes b sw (frameReports frame) start
    obtain ⟨tables', desk', clock', pending'⟩ := ((frameReports frame).foldl (FrameWalk.take b sw) start).settle_frame sw
    rw [tables', desk', clock', pending', tables, desk, clock, pending]
    obtain ⟨settled, state⟩ := FrameWalk.settle_sameSweeps ((frameReports frame).foldl (FrameWalk.take b sw) start) sw
    subst hw
    refine ⟨(congrArg LoopController.inFlight settled).trans (congrArg LoopController.inFlight loop :),
      (congrArg LoopController.lostCount settled).trans (congrArg LoopController.lostCount loop :),
      (congrArg LoopController.lastCompleted settled).trans (congrArg LoopController.lastCompleted loop :),
      (congrArg LoopController.sweepTimer settled).trans (congrArg LoopController.sweepTimer loop :),
      (congrArg LoopController.sweepNumber settled).trans (congrArg LoopController.sweepNumber loop :),
      (congrArg LoopController.phase settled).trans (congrArg LoopController.phase loop :),
      (congrArg LoopController.sweepsSent settled).trans (congrArg LoopController.sweepsSent loop :),
      (congrArg LoopController.sweepsLost settled).trans (congrArg LoopController.sweepsLost loop :),
      state.imp_left fun same => same.trans ((congrArg LoopController.state loop :).trans running), fun none len => ?_, rfl, rfl, rfl, rfl⟩
    rw [none]
    refine ⟨(congrArg LoopController.state (FrameWalk.settle_loop _ sw)).trans running, fun p hp => ?_⟩
    refine (congrArg PositionRecord.missed (FrameWalk.settle_position (by exact len) sw p hp)).trans ?_
    simp only [List.foldl_nil, List.not_mem_nil, not_false_eq_true, and_true]
    split <;> rfl
  · intro l r
    exact ⟨LoopController.sortReport_of_good, LoopController.sortReport_of_bad⟩
  · rintro b sw w r sorted active len rfl
    refine ⟨fun skipped => FrameWalk.take_of_skipped skipped, ?_⟩
    rintro below asked fresh p rfl card rfl w' rfl
    have opened : w.open sw r := ⟨below, asked, fresh⟩
    refine ⟨fun bad => FrameWalk.take_of_bad opened bad active len, fun good idle => ?_, fun good on other => ?_, fun good on kind identity => ?_⟩
    · rw [FrameWalk.take_of_open opened, w.sorted_of_good below good]
      simp [good, idle, FrameWalk.good_state below good]
    · have unmatched : ¬b.memory.matchesCard r.position r.card = true := mt (b.memory.matchesCard_iff _ _).mp other
      rw [FrameWalk.take_of_open opened, w.sorted_of_good below good]
      simp [good, on, unmatched, FrameWalk.good_state below good]
    · exact FrameWalk.take_of_accepted opened good on ((b.memory.matchesCard_iff _ _).mpr ⟨kind, identity⟩) len
  · intro w sw len
    refine ⟨fun p hp => FrameWalk.settle_position len sw p hp, fun agrees => ?_, fun mismatch => ?_⟩
    · rw [w.settle_loop sw, agrees]
      rfl
    · have loop := w.settle_loop sw
      rw [mismatch] at loop
      rw [loop]
      refine ⟨rfl, rfl, rfl, ?_⟩
      rw [FrameWalk.settle, Event.close_request]
      refine Event.judgeAll_authority ?_ _
      simp [mismatch, LoopController.enterSurvey]

/-! ### The return of a survey sweep (R15 to R17) -/

/-- Sorting a report changes the corrupt count of a position's record alone (R8). -/
theorem LoopController.sortReport_position (l : LoopController) (r : CardReport) (len : l.positions.length = 32) (p : Nat) (hp : p < 32) :
    { (l.sortReport r).position p with corrupt := (l.position p).corrupt } = l.position p := by
  by_cases good : r.good = true
  · rw [LoopController.sortReport_of_good good]
    split <;> rfl
  · rw [LoopController.sortReport_of_bad (by simpa using good), l.position_modifyPosition _ _ p len hp]
    split <;> rfl

theorem LoopController.sortReport_length (l : LoopController) (r : CardReport) : (l.sortReport r).positions.length = l.positions.length := by
  unfold LoopController.sortReport
  split
  · split <;> rfl
  · simp [LoopController.modifyPosition]

theorem LoopController.sortReports_position (rs : List CardReport) (l : LoopController) (len : l.positions.length = 32) :
    (rs.foldl LoopController.sortReport l).positions.length = 32
      ∧ ∀ p, p < 32 → { (rs.foldl LoopController.sortReport l).position p with corrupt := (l.position p).corrupt } = l.position p := by
  induction rs generalizing l with
  | nil => exact ⟨len, fun _ _ => rfl⟩
  | cons r rs ih =>
    obtain ⟨len', rest⟩ := ih (l.sortReport r) ((l.sortReport_length r).trans len)
    refine ⟨len', fun p hp => ?_⟩
    have later := congrArg (fun u : PositionRecord => { u with corrupt := (l.position p).corrupt }) (rest p hp)
    exact later.trans (l.sortReport_position r len p hp)

/-- The loop controller once the reports of a survey sweep have been sorted and its missed reads counted (R8, R17). -/
def LoopController.surveyCounted (l : LoopController) (m : Memory) (phase : Nat) (reports : List CardReport) : LoopController :=
  (reports.foldl LoopController.sortReport l).countMissed ((reports.foldl LoopController.sortReport l).surveyMisses m phase)

section
variable {l : LoopController} {m : Memory} {phase : Nat} {reports : List CardReport}

theorem LoopController.surveyCounted_sameSweeps : l.sameSweeps (l.surveyCounted m phase reports) :=
  LoopController.sameSweeps_sortReports reports l

theorem LoopController.surveyCounted_length (len : l.positions.length = 32) :
    (l.surveyCounted m phase reports).positions.length = 32 := by
  simpa [LoopController.surveyCounted, LoopController.countMissed] using (LoopController.sortReports_position reports l len).1

/-- What the counting of a survey sweep leaves of a position (R17). -/
theorem LoopController.surveyCounted_position (len : l.positions.length = 32) (p : Nat) (hp : p < 32) :
    ((l.surveyCounted m phase reports).position p).judged = (l.position p).judged
      ∧ ((l.surveyCounted m phase reports).position p).supplyLow = (l.position p).supplyLow
      ∧ ((l.surveyCounted m phase reports).position p).missed =
          if (l.position p).judged = .active ∧ (m.phaseSet p).testBit phase = true then min 3 ((l.position p).missed + 1)
          else (l.position p).missed := by
  obtain ⟨len', sorted⟩ := LoopController.sortReports_position reports l len
  have judged : ((reports.foldl LoopController.sortReport l).position p).judged = _ := (congrArg PositionRecord.judged (sorted p hp) :)
  have low : ((reports.foldl LoopController.sortReport l).position p).supplyLow = _ := (congrArg PositionRecord.supplyLow (sorted p hp) :)
  have missed : ((reports.foldl LoopController.sortReport l).position p).missed = _ := (congrArg PositionRecord.missed (sorted p hp) :)
  have misses : (reports.foldl LoopController.sortReport l).surveyMisses m phase p = true
      ↔ (l.position p).judged = .active ∧ (m.phaseSet p).testBit phase = true := by
    simp [LoopController.surveyMisses, Memory.inPhase, judged]
  rw [LoopController.surveyCounted, LoopController.countMissed_position _ _ len' p hp]
  by_cases counts : (reports.foldl LoopController.sortReport l).surveyMisses m phase p = true
  · rw [if_pos counts, if_pos (misses.mp counts), PositionRecord.miss]
    exact ⟨judged, low, by rw [missed]⟩
  · rw [if_neg counts, if_neg (mt misses.mpr counts)]
    exact ⟨judged, low, missed⟩

end

/-- A position judged against the agreed list (R16): what it becomes, and what begins anew where it becomes ACTIVE. -/
theorem PositionRecord.judge_spec (m : Memory) (cards : List Card) (p : Nat) (r : PositionRecord) :
    (r.judge m cards p).surveyed = cards[p]?
      ∧ (r.judge m cards p).judged =
          (if r.judged = .isolated then .isolated
          else if m.expectedType p = 0 then .notExpected
          else
            match cards[p]? with
            | none => .missing
            | some c =>
              if c.cardType.toNat = m.expectedType p ∧ c.identity &&& m.identityMask p = m.identityValue p then .active else .wrongCard)
      ∧ (r.judged ≠ .active → (r.judge m cards p).judged = .active →
          (r.judge m cards p).missed = 3 ∧ (r.judge m cards p).supplyLow = false)
      ∧ ((r.judged = .active ∨ (r.judge m cards p).judged ≠ .active) →
          (r.judge m cards p).missed = r.missed ∧ (r.judge m cards p).supplyLow = r.supplyLow) := by
  unfold PositionRecord.judge
  by_cases isolated : r.judged = .isolated
  · simp [isolated]
  by_cases unexpected : m.expectedType p = 0
  · simp [isolated, unexpected, Memory.expected]
  cases found : cards[p]? with
  | none => simp [isolated, unexpected, Memory.expected]
  | some c =>
    by_cases agrees : m.matchesCard p c = true
    · have agrees' := (m.matchesCard_iff p c).mp agrees
      by_cases on : r.judged = .active
      · simp [on, unexpected, Memory.expected, agrees, agrees'.1, agrees'.2]
      · simp [isolated, on, unexpected, Memory.expected, agrees, agrees'.1, agrees'.2]
    · have other := mt (m.matchesCard_iff p c).mpr agrees
      simp [isolated, unexpected, Memory.expected, agrees, if_neg other]

theorem LoopController.completeSurvey_position (l : LoopController) (m : Memory) (cards : List Card) (p : Nat) (hp : p < l.positions.length) :
    (l.completeSurvey m cards).position p = (l.position p).judge m cards p := by
  rw [LoopController.position_eq_getElem _ p (by simpa [LoopController.completeSurvey] using hp), l.position_eq_getElem p hp]
  simp [LoopController.completeSurvey]

section
variable {l : LoopController} {m : Memory} {hops : Nat} {reports : List CardReport}

theorem LoopController.judgeSurvey_of_unclean (unclean : cleanSurvey hops reports = false) :
    l.judgeSurvey m hops reports = { l with heldList := none } := by
  simp [LoopController.judgeSurvey, unclean]

theorem LoopController.judgeSurvey_of_new (clean : cleanSurvey hops reports = true) (new : l.heldList ≠ some (cardList reports)) :
    l.judgeSurvey m hops reports = { l with heldList := some (cardList reports) } := by
  simp [LoopController.judgeSurvey, clean, new]

theorem LoopController.judgeSurvey_of_held (clean : cleanSurvey hops reports = true) (held : l.heldList = some (cardList reports)) :
    l.judgeSurvey m hops reports = l.completeSurvey m (cardList reports) := by
  simp [LoopController.judgeSurvey, clean, held]

end

/-- Settles O13: the list of the sweep decides, unclean, new or the held one. -/
theorem surveySweepReturns : Obligations.SurveySweepReturns := by
  intro s b sw frame active surveying flight survey returned len
  have taken : s.takeFrame b sw frame
      = (s.onLoop fun l => l.takeReturn sw).surveyFrame b sw (frameHops frame) (frameReports frame) := by
    simp only [State.takeFrame, surveying]
  refine ⟨s.takeFrame b sw frame, exec_loopInFrame_of_return active flight returned, ?_⟩
  obtain ⟨counted, hcounted⟩ :
    ∃ l, l = (s.loop.takeReturn sw).surveyCounted b.memory sw.phase (frameReports frame) := ⟨_, rfl⟩
  have loop : (s.takeFrame b sw frame).loop = counted.judgeSurvey b.memory (frameHops frame) (frameReports frame) := by
    rw [taken, State.surveyFrame_loop, hcounted]
    rfl
  have kept : (s.takeFrame b sw frame).tables = s.tables ∧ (s.takeFrame b sw frame).desk = s.desk
      ∧ (s.takeFrame b sw frame).clock = s.clock ∧ (s.takeFrame b sw frame).pending = s.pending := by
    rw [taken, State.surveyFrame]
    simp
  have same : (s.loop.takeReturn sw).sameSweeps counted := hcounted ▸ LoopController.surveyCounted_sameSweeps
  have landed : counted.inFlight = none := (congrArg LoopController.inFlight same :)
  have lostCount : counted.lostCount = 0 := (congrArg LoopController.lostCount same :)
  have completed : counted.lastCompleted = s.loop.lastCompleted :=
    (congrArg LoopController.lastCompleted same :).trans (by simp [LoopController.takeReturn, survey])
  have state : counted.state = .survey := (congrArg LoopController.state same :).trans surveying
  have list : counted.heldList = s.loop.heldList := (congrArg LoopController.heldList same :)
  have length : counted.positions.length = 32 := hcounted ▸ LoopController.surveyCounted_length len
  have position (p : Nat) (hp : p < 32) := LoopController.surveyCounted_position (l := s.loop.takeReturn sw) (m := b.memory)
    (phase := sw.phase) (reports := frameReports frame) len p hp
  rw [← hcounted] at position
  rw [loop]
  -- while the survey goes on, no position is judged
  have goesOn (l : LoopController) (positions : l.positions = counted.positions) (p : Nat) (hp : p < 32) :
      (l.position p).judged = (s.loop.position p).judged
        ∧ ((s.loop.position p).judged ≠ .active → (l.position p).judged = .active →
            (l.position p).missed = 3 ∧ (l.position p).supplyLow = false)
        ∧ (((s.loop.position p).judged = .active ∨ (l.position p).judged ≠ .active) →
            (l.position p).supplyLow = (s.loop.position p).supplyLow ∧ (l.position p).missed =
              if (s.loop.position p).judged = .active ∧ (b.memory.phaseSet p).testBit sw.phase = true
              then min 3 ((s.loop.position p).missed + 1) else (s.loop.position p).missed) := by
    have record : l.position p = counted.position p := by rw [LoopController.position, positions]; rfl
    obtain ⟨judged, low, missed⟩ := position p hp
    rw [record]
    exact ⟨judged, fun idle on => absurd (judged.symm.trans on) idle, fun _ => ⟨low, missed⟩⟩
  by_cases clean : cleanSurvey (frameHops frame) (frameReports frame) = true
  · by_cases held : s.loop.heldList = some (cardList (frameReports frame))
    · rw [LoopController.judgeSurvey_of_held clean (list.trans held)]
      refine ⟨landed, lostCount, completed, fun unclean => absurd (unclean.symm.trans clean) (by simp), fun _ new => absurd held new,
        nofun, fun _ _ => ⟨rfl, rfl, rfl, rfl, fun p hp => ?_⟩, fun p hp => ?_, kept⟩
      · obtain ⟨surveyed, judged, -⟩ := (counted.position p).judge_spec b.memory (cardList (frameReports frame)) p
        rw [LoopController.completeSurvey_position _ _ _ p (by omega), surveyed, judged, (position p hp).1]
        exact ⟨rfl, rfl⟩
      · obtain ⟨-, -, begins, goes⟩ := (counted.position p).judge_spec b.memory (cardList (frameReports frame)) p
        obtain ⟨judged, low, missed⟩ := position p hp
        rw [judged, low, missed] at goes
        rw [judged] at begins
        rw [LoopController.completeSurvey_position _ _ _ p (by omega)]
        exact ⟨begins, fun h => (goes h).symm⟩
    · rw [LoopController.judgeSurvey_of_new clean (by rw [list]; exact held)]
      exact ⟨landed, lostCount, completed, fun unclean => absurd (unclean.symm.trans clean) (by simp), fun _ _ => ⟨state, rfl⟩,
        fun _ p hp => (goesOn _ rfl p hp).1, fun _ again => absurd again held, fun p hp => (goesOn _ rfl p hp).2, kept⟩
  · have unclean : cleanSurvey (frameHops frame) (frameReports frame) = false := by simpa using clean
    rw [LoopController.judgeSurvey_of_unclean unclean]
    exact ⟨landed, lostCount, completed, fun _ => ⟨state, rfl⟩, fun again => absurd again clean, fun _ p hp => (goesOn _ rfl p hp).1,
      fun again => absurd again clean, fun p hp => (goesOn _ rfl p hp).2, kept⟩

end Sys2Proof.Machine
end

section
/-! Outages, the flasher monitor and the pair unit (R43, R61 to R67, R70 to R72, R76, R80). -/

namespace Sys2Proof.Machine

/-! ### CARD_OUTAGE_UNKNOWN (R43) -/

/-- Settles O15. -/
theorem outageTurnsInputsUnknown : Obligations.OutageTurnsInputsUnknown := by
  intro s b p stamp active out
  refine ⟨((((Event.start s).positionOutage b p stamp).judgeCards stamp).judgeFlasher stamp).close, ?_, ?_⟩
  · show execCardOutageUnknown p stamp s = _
    rw [execCardOutageUnknown, active]
    exact if_pos out
  · have filter : ((((Event.start s).positionOutage b p stamp).judgeCards stamp).judgeFlasher stamp).close.filter
        = s.filter.unknownAt b.memory fun q => decide (q = p) := by
      simp [Event.positionOutage_filter]
    rw [filter]
    refine ⟨?_, rfl, by simp, by simp, by simp, by simp, by simp⟩
    simp only [ContactFilter.unknownAt, decide_eq_true_eq]
    rfl

/-! ### The flasher monitor (R61 to R67) -/

section
variable (s : State) (f : FlasherMonitor) (time : Stamp)

@[simp] theorem State.flasherEvent_flasher : (s.flasherEvent f time).flasher = f := by simp [State.flasherEvent]

theorem State.flasherEvent_frame :
    { s.flasherEvent f time with flasher := s.flasher, evaluator := s.evaluator, report := s.report } = s := by
  simp [State.flasherEvent, Event.start]

theorem State.flasherOk_of_same {s t : State} (tables : t.tables = s.tables) (filter : t.filter = s.filter)
    (flasher : t.flasher = s.flasher) : t.flasherOk = s.flasherOk := by
  rw [State.flasherOk, State.flasherOk, State.active_of_tables tables, filter, flasher]

/-- FLASHER_OK follows the monitor (R67). -/
theorem State.flasherEvent_flasherOk : (s.flasherEvent f time).evaluator.conditions.flasherOk = (s.flasherEvent f time).flasherOk := by
  have judged := Event.setCondition_get ((Event.start s).onState fun s => { s with flasher := f }) 2
    ({ s with flasher := f } : State).flasherOk time (by decide)
  refine (Event.close_condition _ 2 (by decide)).trans (judged.trans (State.flasherOk_of_same ?_ ?_ ?_).symm)
  · simp [State.flasherEvent]
  · simp [State.flasherEvent]
  · simp [State.flasherEvent]

end

theorem Memory.reference_of_entry {m : Memory} {i : Nat} {e : MapEntry} (h : m.referenceEntry? = some (i, e)) : m.reference? = some i := by
  simp only [Memory.referenceEntry?, Option.map_eq_some_iff, Prod.mk.injEq] at h
  obtain ⟨j, reference, rfl, -⟩ := h
  exact reference

/-- FLASHER_OK is 0 with STOPPED set (R67). -/
theorem State.flasherOk_of_stopped {s : State} {b : Bank} {i : Nat} {e : MapEntry} (active : s.active? = some b)
    (reference : b.memory.referenceEntry? = some (i, e)) (stopped : s.flasher.stopped = true) : s.flasherOk = false := by
  simp [State.flasherOk, active, Memory.reference_of_entry reference, stopped]

/-- The bank and the reference's entry, as the monitor's commands look them up. -/
theorem State.reference_lookup {s : State} {b : Bank} {i : Nat} {e : MapEntry} (active : s.active? = some b)
    (reference : b.memory.referenceEntry? = some (i, e)) :
    (s.active?.bind fun b => b.memory.referenceEntry?.map fun x => (b, x.2)) = some (b, e) := by
  simp [active, reference]

section
variable (f : FlasherMonitor) (mode : FlasherMode)

theorem FlasherMonitor.abandon_of_auto : f.abandon .auto = { f with cycles := 0, readSum := 0, anchored := false } := rfl

theorem FlasherMonitor.abandon_of_measuring (measuring : f.measuring = true) :
    f.abandon .oneShot = { f with cycles := 0, readSum := 0, anchored := false, measuring := false, abandoned := true } :=
  if_pos measuring

theorem FlasherMonitor.abandon_of_idle (idle : mode = .manual ∨ mode = .oneShot ∧ f.measuring = false) : f.abandon mode = f := by
  rcases idle with rfl | ⟨rfl, idle⟩
  · rfl
  · exact if_neg (by simp [idle])

/-- Abandoning a measurement touches only what belongs to it (R66). -/
theorem FlasherMonitor.abandon_frame :
    { f.abandon mode with
      cycles := f.cycles, readSum := f.readSum, anchored := f.anchored, measuring := f.measuring, abandoned := f.abandoned } = f := by
  unfold FlasherMonitor.abandon
  split
  · rfl
  · rfl
  · split <;> rfl

theorem FlasherMonitor.inProgress_iff : f.inProgress mode = true ↔ mode = .auto ∨ mode = .oneShot ∧ f.measuring = true := by
  cases mode <;> simp [FlasherMonitor.inProgress]

theorem FlasherMonitor.countRead_eq :
    f.countRead = { f with sinceRise := if f.stopped then f.sinceRise else f.sinceRise.map (· + 1) } := by
  unfold FlasherMonitor.countRead
  split <;> rfl

/-- An anchored measurement in progress counts the cycle that a transition ends (R62). -/
theorem FlasherMonitor.countCycle_of_anchored {n w : Nat} (rise : f.sinceRise = some w) (anchored : f.anchored = true)
    (measures : mode = .auto ∨ mode = .oneShot ∧ f.measuring = true) :
    f.countCycle mode n =
      { f with readSum := f.readSum + (w - n), cycles := f.cycles + 1, sinceRise := some n, anchored := true, stopped := false } := by
  have inProgress := (f.inProgress_iff mode).mpr measures
  simp [FlasherMonitor.countCycle, rise, inProgress, anchored]

/-- Any other transition anchors w alone (R62). -/
theorem FlasherMonitor.countCycle_of_other {n : Nat}
    (other : f.anchored = false ∨ mode = .manual ∨ mode = .oneShot ∧ f.measuring = false) :
    f.countCycle mode n = { f with sinceRise := some n, anchored := true, stopped := false } := by
  have idle : (f.inProgress mode && f.anchored) = false := by
    rcases other with unanchored | rfl | ⟨rfl, idle⟩
    · simp [unanchored]
    · rfl
    · simp [FlasherMonitor.inProgress, idle]
  cases rise : f.sinceRise with
  | none => simp [FlasherMonitor.countCycle, rise]
  | some w => simp [FlasherMonitor.countCycle, rise, idle]

end

/-! ### What a read does to the monitor (R61) -/

section
variable {f : FlasherMonitor} {mode : FlasherMode} {nominal readPeriod n : Nat} {before after : InputState}

theorem FlasherMonitor.takeRead_of_unknown (was : before.debounced = none) (is : after.debounced = none) :
    f.takeRead mode nominal readPeriod n before after = f := by
  simp [FlasherMonitor.takeRead, was, is]

theorem FlasherMonitor.takeRead_of_resume (was : before.debounced = none) (is : after.debounced ≠ none) :
    f.takeRead mode nominal readPeriod n before after = ({ f with sinceRise := some 1, anchored := false }).testStopped mode readPeriod := by
  obtain ⟨v, is⟩ := Option.ne_none_iff_exists'.mp is
  simp [FlasherMonitor.takeRead, was, is]

theorem FlasherMonitor.takeRead_of_lost (was : before.debounced ≠ none) (is : after.debounced = none) :
    f.takeRead mode nominal readPeriod n before after = ({ f with sinceRise := none, anchored := false }).abandon mode := by
  obtain ⟨v, was⟩ := Option.ne_none_iff_exists'.mp was
  cases v <;> simp [FlasherMonitor.takeRead, was, is, FlasherMonitor.loseReference]

theorem FlasherMonitor.takeRead_of_rise (was : before.debounced = some .opened) (is : after.debounced = some .closed) :
    f.takeRead mode nominal readPeriod n before after = (f.countRead.cycleStep mode nominal readPeriod n).testStopped mode readPeriod := by
  simp [FlasherMonitor.takeRead, was, is]

theorem FlasherMonitor.takeRead_of_read (was : before.debounced ≠ none) (is : after.debounced ≠ none)
    (flat : ¬(before.debounced = some .opened ∧ after.debounced = some .closed)) :
    f.takeRead mode nominal readPeriod n before after = f.countRead.testStopped mode readPeriod := by
  obtain ⟨u, was⟩ := Option.ne_none_iff_exists'.mp was
  obtain ⟨v, is⟩ := Option.ne_none_iff_exists'.mp is
  cases u <;> cases v <;> simp_all [FlasherMonitor.takeRead]

end

/-- Settles O17. -/
theorem measurementJudgesThePeriod : Obligations.MeasurementJudgesThePeriod := by
  constructor
  · intro s b i e time active reference cycles
    obtain ⟨f, hf⟩ : ∃ f, f = s.flasher.complete b.memory.flasherMode b.counts.nominal (b.memory.readPeriod e.position) := ⟨_, rfl⟩
    refine ⟨s.flasherEvent f time, ?_, ?_⟩
    · show execMeasurementComplete time s = _
      rw [execMeasurementComplete, State.reference_lookup active reference, hf]
      exact if_pos cycles
    · rw [State.flasherEvent_flasherOk, State.flasherEvent_frame, State.flasherEvent_flasher, hf]
      refine ⟨?_, rfl, rfl, fun oneShot => ?_, rfl, rfl, rfl, rfl, rfl⟩
      · rintro measured rfl
        refine ⟨rfl, fun ⟨low, high⟩ => ?_, fun outside => ?_⟩
        · simp [FlasherMonitor.complete, low, high]
        · have out : (decide (3 * b.counts.nominal ≤ 4 * ((s.flasher.readSum * b.memory.readPeriod e.position + 4) / 8))
              && decide (4 * ((s.flasher.readSum * b.memory.readPeriod e.position + 4) / 8) ≤ 5 * b.counts.nominal)) = false := by
            rw [← Bool.decide_and]
            exact decide_eq_false outside
          simp only [FlasherMonitor.complete, out]
          exact ⟨rfl, rfl⟩
      · simp [FlasherMonitor.complete, oneShot]
  · rintro f mode nominal readPeriod n before after t counted rfl hcounted
    rw [← f.countRead_eq] at hcounted
    rw [hcounted]
    refine ⟨FlasherMonitor.takeRead_of_unknown, FlasherMonitor.takeRead_of_resume, fun was is => ?_, FlasherMonitor.takeRead_of_rise,
      FlasherMonitor.takeRead_of_read, ?_⟩
    · rw [FlasherMonitor.takeRead_of_lost was is]
      refine ⟨?_, ?_, fun idle => FlasherMonitor.abandon_of_idle _ _ idle⟩
      · rintro rfl
        rfl
      · rintro rfl measuring
        exact FlasherMonitor.abandon_of_measuring _ measuring
    · rintro w c rfl rise
      refine ⟨FlasherMonitor.countCycle_of_anchored f mode rise, FlasherMonitor.countCycle_of_other f mode, fun few => ?_, fun eight => ?_⟩
      · exact if_neg (by omega)
      · exact if_pos eight

/-- Settles O18. -/
theorem stoppedFlasherAbandonsMeasurement : Obligations.StoppedFlasherAbandonsMeasurement := by
  intro s b i e w p time active reference rise period running passed
  have stops : s.flasher.stops (b.memory.readPeriod e.position) = true := by simp [FlasherMonitor.stops, rise, period, running, passed]
  obtain ⟨f, hf⟩ : ∃ f, f = ({ s.flasher with stopped := true }).abandon b.memory.flasherMode := ⟨_, rfl⟩
  have frame := ({ s.flasher with stopped := true } : FlasherMonitor).abandon_frame b.memory.flasherMode
  rw [← hf] at frame
  have stopped : f.stopped = true := (congrArg FlasherMonitor.stopped frame :)
  refine ⟨s.flasherEvent f time, ?_, ?_⟩
  · show execFlasherStopped time s = _
    rw [execFlasherStopped, State.reference_lookup active reference, hf]
    exact congrArg (fun f => Host.Outcome.next (s.flasherEvent f time)) (if_pos stops)
  · have ok : (s.flasherEvent f time).flasherOk = false := by
      refine State.flasherOk_of_stopped (b := b) ?_ reference (by simp [stopped])
      exact (State.active_of_tables (s := s) (by simp [State.flasherEvent])).trans active
    rw [State.flasherEvent_flasherOk, State.flasherEvent_frame, ok, State.flasherEvent_flasher]
    refine ⟨stopped, (congrArg FlasherMonitor.period frame :).trans period, (congrArg FlasherMonitor.fault frame :),
      (congrArg FlasherMonitor.lastMeasured frame :), fun auto => ?_, fun oneShot measuring => ?_, fun manual => ?_, rfl, rfl⟩
    · rw [hf, auto]
      exact ⟨rfl, rfl, rfl⟩
    · rw [hf, oneShot, FlasherMonitor.abandon_of_measuring { s.flasher with stopped := true } measuring]
      exact ⟨rfl, rfl, rfl, rfl⟩
    · rw [hf, manual]
      rfl

/-! ### The pair unit (R70 to R72, R76, R80) -/

theorem latestNotice_eq_none (ns : List InputNotice) : latestNotice ns = none ↔ ns = [] := by
  cases ns with
  | nil => simp [latestNotice]
  | cons n ns =>
    simp only [latestNotice]
    split
    · simp
    · split <;> simp

/-- A batch with a notice of a pair's inputs has one that decides (R77), and one without has none. -/
theorem decidingNotice_eq_none (before after : PairState) (ns : List InputNotice) : decidingNotice before after ns = none ↔ ns = [] := by
  simp only [decidingNotice, Option.or_eq_none_iff, latestNotice_eq_none]
  constructor
  · rintro ⟨-, none⟩
    exact none
  · rintro rfl
    exact ⟨rfl, rfl⟩

/-- A pair evaluated for a batch with a notice of its inputs (R71, R76): its state and quality, and its transit counter. -/
theorem PairRecord.evaluate_spec (r : PairRecord) (f nt : Nat) (front back : Option Settled × Quality) {ns : List InputNotice}
    (noticed : ns ≠ []) :
    (r.evaluate f nt front back ns).1.state = r.state.evaluate nt front back
      ∧ (r.evaluate f nt front back ns).1.quality = (r.state.evaluate nt front back).qualityWith front.2 back.2
      ∧ (r.evaluate f nt front back ns).1.transit
          = if r.state.evaluate nt front back = .transit ∧ r.state = .transit then r.transit else 0 := by
  unfold PairRecord.evaluate
  split
  next none => exact absurd ((decidingNotice_eq_none _ _ ns).mp none) noticed
  next n _ =>
    dsimp only
    split
    next same => exact ⟨same.1.symm, same.2.symm, rfl⟩
    next => exact ⟨rfl, rfl, rfl⟩

theorem PairRecord.evaluate_nil (r : PairRecord) (f nt : Nat) (front back : Option Settled × Quality) :
    r.evaluate f nt front back [] = (r, none) := rfl

theorem PairState.evaluate_of_known {front back : Option Settled × Quality} (hf : front.2 ≠ .unknown) (hb : back.2 ≠ .unknown)
    (before : PairState) (nt : Nat) :
    before.evaluate nt front back =
      match front.1, back.1 with
      | some .closed, some .opened => .up
      | some .opened, some .closed => .down
      | some .closed, some .closed => .closedFault
      | some .opened, some .opened =>
        match before with
        | .transit => .transit
        | .openFault => .openFault
        | .closedFault => .closedFault
        | _ => if nt = 0 then .openFault else .transit
      | _, _ => .unknown :=
  if_neg (by simp [hf, hb])

/-- A pair follows the table of R71 with the quality of R76. -/
theorem PairRecord.evaluate_table {r u : PairRecord} {f nt : Nat} {front back : Option Settled × Quality} {ns : List InputNotice}
    (noticed : ns ≠ []) (hu : u = (r.evaluate f nt front back ns).1) (hf : front.2 ≠ .unknown) (hb : back.2 ≠ .unknown) {q : Quality}
    (hq : q = if front.2 = .forced ∨ back.2 = .forced then Quality.forced else .good) :
    (front.1 = some .closed → back.1 = some .opened → u.state = .up ∧ u.quality = q ∧ u.transit = 0)
      ∧ (front.1 = some .opened → back.1 = some .closed → u.state = .down ∧ u.quality = q ∧ u.transit = 0)
      ∧ (front.1 = some .closed → back.1 = some .closed → u.state = .closedFault ∧ u.quality = .fault ∧ u.transit = 0)
      ∧ (front.1 = some .opened → back.1 = some .opened →
          (r.state = .transit → u.state = .transit ∧ u.quality = q ∧ u.transit = r.transit)
          ∧ (r.state = .openFault ∨ r.state = .closedFault → u.state = r.state ∧ u.quality = .fault)
          ∧ (r.state = .up ∨ r.state = .down ∨ r.state = .unknown →
              (nt = 0 → u.state = .openFault ∧ u.quality = .fault) ∧ (nt ≠ 0 → u.state = .transit ∧ u.quality = q ∧ u.transit = 0))) := by
  obtain ⟨state, quality, transit⟩ := r.evaluate_spec f nt front back noticed
  rw [← hu] at state quality transit
  have table := PairState.evaluate_of_known hf hb r.state nt
  rw [state, quality, transit, hq]
  refine ⟨fun front back => ?_, fun front back => ?_, fun front back => ?_, fun front back => ?_⟩
  · rw [table, front, back]
    exact ⟨rfl, rfl, rfl⟩
  · rw [table, front, back]
    exact ⟨rfl, rfl, rfl⟩
  · rw [table, front, back]
    exact ⟨rfl, rfl, rfl⟩
  · rw [front, back] at table
    refine ⟨fun before => ?_, fun before => ?_, fun before => ⟨fun none => ?_, fun some => ?_⟩⟩
    · rw [table, before]
      exact ⟨rfl, rfl, rfl⟩
    · rw [table]
      rcases before with before | before <;> rw [before] <;> exact ⟨rfl, rfl⟩
    · rw [table]
      rcases before with before | before | before <;> simp [before, none, PairState.qualityWith]
    · rw [table]
      rcases before with before | before | before <;> simp [before, some, PairState.qualityWith]

section
variable (s : State) (b : Bank) (f : Nat) (time : Stamp)

theorem State.countOutEvent_frame :
    { s.countOutEvent b f time with pairs := s.pairs, evaluator := s.evaluator, report := s.report, request := s.request } = s := by
  simp [State.countOutEvent]

theorem State.countOutEvent_pairs (j : Nat) :
    keyedGet j (s.countOutEvent b f time).pairs =
      if j = f then some { state := .openFault, transit := 0, stamp := time, quality := .fault } else keyedGet j s.pairs := by
  simp [State.countOutEvent, keyedGet_put]

/-- The changeover pair in OPEN_FAULT takes authority with it (R80, R118). -/
theorem State.countOutEvent_changeover (changeover : f = b.memory.changeover) :
    (s.countOutEvent b f time).request.authority = false
      ∧ (s.countOutEvent b f time).request.changeover = some (.openFault, .fault) := by
  simp only [State.countOutEvent, Event.handOnPair, if_pos changeover, Event.close_request, Event.takeChangeover]
  generalize hnoted : Event.onState (Event.handOn _ _) _ = noted
  have request : noted.st.request.changeover = some (.openFault, .fault) := by rw [← hnoted]; rfl
  refine ⟨?_, (congrArg RequestEngine.changeover (noted.judgeAuthority_frame time) :).trans request⟩
  rw [(noted.judgeAuthority_request time).2]
  simp [Reasons.isEmpty, State.reasonSet, request]

end

/-- Settles O19. -/
theorem transitCountOutIsOpenFault : Obligations.TransitCountOutIsOpenFault := by
  refine ⟨?_, ?_, ?_⟩
  · intro s b f r time active pair transit counted
    refine ⟨s.countOutEvent b f time, ?_, s.countOutEvent_pairs b f time, s.countOutEvent_changeover b f time,
      s.countOutEvent_frame b f time⟩
    show execTransitCountOut f time s = _
    rw [execTransitCountOut, active, pair]
    exact if_pos ⟨transit, counted⟩
  · intro r f nt front back ns u noticed hu
    refine ⟨fun unknown => ?_, fun hf hb q hq => PairRecord.evaluate_table noticed hu hf hb hq⟩
    obtain ⟨state, quality, transit⟩ := r.evaluate_spec f nt front back noticed
    have lost : r.state.evaluate nt front back = .unknown := if_pos unknown
    rw [hu, state, quality, transit, lost]
    exact ⟨rfl, rfl, rfl⟩
  · intro r b c f p time
    by_cases counts : (b.memory.mapEntry f).position = p ∧ r.state = .transit
    · rw [if_pos counts]
      by_cases out : b.transitCount (b.memory.mapEntry f) ≤ r.transit + 1
      · simp [PairRecord.takeBatch, PairRecord.evaluate_nil, counts, PairRecord.countRead, out]
      · simp [PairRecord.takeBatch, PairRecord.evaluate_nil, counts, PairRecord.countRead, out]
    · rw [if_neg counts]
      simp [PairRecord.takeBatch, PairRecord.evaluate_nil, if_neg counts]

end Sys2Proof.Machine
end

section
/-! What a read does to an input: debounce, flash runs, and settling as an event of its own (R31, R40, R41, R45, R46, R55 to R60). -/

namespace Sys2Proof.Machine

/-! ### Settling as an event of its own (R41) -/

section
variable {s : State} {b : Bank} {i : Nat} {v : ContactValue} {time : Stamp}

theorem State.settleEvent_filter (s : State) (b : Bank) (i : Nat) (v : ContactValue) (time : Stamp) :
    (s.settleEvent b i v time).filter =
      (s.filter.mapInputs fun j st => if j = i then b.settleInput (s.flasher.period.getD 0) i v time st else st.untouched).1 := by
  simp [State.settleEvent]

theorem ContactFilter.mapInputs_get (c : ContactFilter) (f : Nat → InputState → ReadOutcome) (j : Nat) :
    keyedGet j (c.mapInputs f).1.inputs = (keyedGet j c.inputs).map fun st => (f j st).after :=
  keyedGet_map (fun k st => (f k st).after) j c.inputs

/-- An input that is not flash-classified settles as its debounced value does (R41). -/
theorem Bank.settleInput_of_plain {period : Nat} (plain : b.memory.flashClassified i = false) (st : InputState) :
    (b.settleInput period i v time st).after =
      { st with debounced := some v, stamp := st.firstSeen, candidate := none, count := 0, settled := some v.settled } := by
  simp [Bank.settleInput, plain, InputState.settle]

theorem exec_debounceSettle {st : InputState} (active : s.active? = some b) (held : keyedGet i s.filter.inputs = some st)
    (candidate : st.candidate = some v) (counted : b.debounceCount (b.memory.mapEntry i) v ≤ st.count) :
    exec (.debounceSettle i time) s = .next (s.settleEvent b i v time) := by
  show execDebounceSettle i time s = _
  rw [execDebounceSettle, active, held]
  simp only [candidate]
  exact if_pos counted

end

/-! ### The debounce (R40, R41) -/

section
variable {st : InputState} {v d : ContactValue} {n : Nat} {time : Stamp}

theorem InputState.debounce_of_equal (equal : st.debounced = some v) : st.debounce n v time = (st.discardCandidate, false) :=
  if_pos equal

theorem InputState.debounce_of_other (other : st.debounced ≠ some v) :
    st.debounce n v time =
      if n ≤ (st.countCandidate v time).count then ((st.countCandidate v time).settle v, true) else (st.countCandidate v time, false) :=
  if_neg other

theorem InputState.countCandidate_count (st : InputState) (v : ContactValue) (time : Stamp) :
    (st.countCandidate v time).count = if st.candidate = none then 1 else st.count + 1 := by
  unfold InputState.countCandidate
  split
  · rename_i none
    simp [none]
  · rename_i u some
    simp [some]

/-- The candidate `v` after a read, with its count and its first-seen time (R41). -/
theorem InputState.countCandidate_eq {c : Nat} {first : Stamp}
    (counts : (st.candidate = none ∧ c = 1 ∧ first = time) ∨ (st.candidate = some v ∧ c = st.count + 1 ∧ first = st.firstSeen)) :
    st.countCandidate v time = { st with candidate := some v, count := c, firstSeen := first } := by
  rcases counts with ⟨none, rfl, rfl⟩ | ⟨some, rfl, rfl⟩
  · simp [InputState.countCandidate, none]
  · simp only [InputState.countCandidate, some]

/-- A read settles an input where it differs from the debounced value and completes the debounce count (R41). -/
theorem InputState.debounce_settles (held : st.debounced = some d) :
    (st.debounce n v time).2 = true ↔ d ≠ v ∧ n ≤ if st.candidate = none then 1 else st.count + 1 := by
  by_cases equal : d = v
  · rw [InputState.debounce_of_equal (by rw [held, equal])]
    simp [equal]
  · rw [InputState.debounce_of_other (by simpa [held] using equal), st.countCandidate_count]
    by_cases reaches : n ≤ if st.candidate = none then 1 else st.count + 1
    · rw [if_pos reaches]
      exact iff_of_true rfl ⟨equal, reaches⟩
    · rw [if_neg reaches]
      exact iff_of_false Bool.false_ne_true fun ⟨_, reached⟩ => reaches reached

/-- A read that leaves the candidate below the debounce count, and one that completes it (R41). -/
theorem InputState.debounce_of_counted {c : Nat} {first : Stamp} (held : st.debounced = some d) (other : d ≠ v)
    (counts : (st.candidate = none ∧ c = 1 ∧ first = time) ∨ (st.candidate = some v ∧ c = st.count + 1 ∧ first = st.firstSeen)) :
    (c < n → st.debounce n v time = ({ st with candidate := some v, count := c, firstSeen := first }, false))
      ∧ (n ≤ c → st.debounce n v time =
          ({ st with debounced := some v, stamp := first, candidate := none, count := 0, firstSeen := first }, true)) := by
  rw [InputState.debounce_of_other (by simpa [held] using other), InputState.countCandidate_eq counts]
  exact ⟨fun few => if_neg (by simpa using few), fun many => if_pos many⟩

end

/-! ### One read of one input -/

section
variable {b : Bank} {period i : Nat} {v d : ContactValue} {time : Stamp} {st : InputState}

theorem Bank.readInput_of_low : (b.readInput period i v true time st).after = st.toUnknown := rfl

theorem Bank.readInput_of_unknown (unknown : st.debounced = none) :
    (b.readInput period i v false time st).after = st.resume (b.memory.flashClassified i) v time := by
  simp [Bank.readInput, unknown]

theorem Bank.readInput_of_plain (held : st.debounced = some d) (plain : b.memory.flashClassified i = false) :
    b.readInput period i v false time st = st.plainRead (b.debounceCount (b.memory.mapEntry i) v) v time i := by
  simp [Bank.readInput, held, plain]

theorem Bank.readInput_of_flash (held : st.debounced = some d) (flash : b.memory.flashClassified i = true) :
    b.readInput period i v false time st =
      st.flashRead period (b.memory.readPeriod (b.memory.mapEntry i).position) (b.debounceCount (b.memory.mapEntry i) v) v time i := by
  simp [Bank.readInput, held, flash]

end

/-! ### Flash runs (R55 to R59) -/

section
variable {st : InputState} {r : RunData} {period readPeriod n : Nat}

theorem RunData.judged_of_qualifying (start : r.openStart = false) (short : r.outlasted = false)
    (low : 3 * period ≤ 8 * ((r.length - n) * readPeriod)) (high : 8 * ((r.length - n) * readPeriod) ≤ 5 * period) :
    r.judged period readPeriod n = (r.qualifying + 1, if r.qualifying = 0 then r.start else r.flashStart) := by
  simp [RunData.judged, start, short, runQualifies, low, high]

theorem RunData.judged_of_other (other : r.openStart = true ∨ r.outlasted = true ∨ 8 * ((r.length - n) * readPeriod) < 3 * period
    ∨ 5 * period < 8 * ((r.length - n) * readPeriod)) : r.judged period readPeriod n = (0, r.flashStart) := by
  unfold RunData.judged
  by_cases spoilt : r.openStart = true ∨ r.outlasted = true
  · exact if_pos spoilt
  · have outside : ¬runQualifies period readPeriod (r.length - n) = true := by
      simp only [runQualifies, Bool.and_eq_true, decide_eq_true_eq]
      rintro ⟨low, high⟩
      rcases other with h | h | h | h
      · exact spoilt (.inl h)
      · exact spoilt (.inr h)
      · omega
      · omega
    rw [if_neg spoilt, if_neg outside]

/-- A FLASHING input keeps its qualifying count as its run ends (R59). -/
theorem InputState.endRun_of_flashing (run : st.run = some r) (flashing : st.settled = some .flashing) :
    st.endRun period readPeriod n =
      ({ st with run := some { r with start := st.stamp, length := n, outlasted := false, openStart := false } }, none) := by
  simp [InputState.endRun, run, flashing]

/-- A steady input's run is judged as it ends, and at a qualifying count of 2 the input is FLASHING (R56, R58). -/
theorem InputState.endRun_of_steady {after : RunData} {s : Settled} (run : st.run = some r) (settled : st.settled = some s)
    (steady : s ≠ .flashing)
    (begins : after =
      { start := st.stamp, length := n, outlasted := false, openStart := false,
        qualifying := (r.judged period readPeriod n).1, flashStart := (r.judged period readPeriod n).2 }) :
    ((r.judged period readPeriod n).1 < 2 → st.endRun period readPeriod n = ({ st with run := some after }, none))
      ∧ (2 ≤ (r.judged period readPeriod n).1 → st.endRun period readPeriod n =
          ({ st with settled := some .flashing, run := some after }, some (r.judged period readPeriod n).2)) := by
  subst begins
  have notFlashing : st.settled ≠ some .flashing := by simpa [settled] using steady
  simp only [InputState.endRun, run, if_neg notFlashing]
  constructor
  · intro few
    exact if_neg fun ⟨many, _⟩ => absurd many (by omega)
  · intro many
    exact if_pos ⟨many, notFlashing⟩

end

/-- Settles O16. -/
theorem settlingTakesTheFirstSeenTime : Obligations.SettlingTakesTheFirstSeenTime := by
  refine ⟨?_, ?_, ?_, ?_, ?_, ?_, ?_⟩
  · intro s b i st v time active held candidate counted plain
    refine ⟨s.settleEvent b i v time, exec_debounceSettle active held candidate counted, ?_⟩
    rw [State.settleEvent_filter]
    refine ⟨?_, fun j other => ?_, rfl, ?_⟩
    · rw [ContactFilter.mapInputs_get, held, Option.map_some, if_pos rfl, Bank.settleInput_of_plain plain]
    · simp only [ContactFilter.mapInputs_get, if_neg other]
      exact Option.map_id'
    · simp [State.settleEvent]
  · intro b period i v time st plain
    refine ⟨rfl, fun unknown => ?_, fun equal => ?_, fun d held other c first counts => ⟨fun few => ?_, fun many => ?_⟩⟩
    · rw [Bank.readInput_of_unknown unknown, plain]
      rfl
    · rw [Bank.readInput_of_plain equal plain, InputState.plainRead, InputState.debounce_of_equal equal]
      rfl
    · rw [Bank.readInput_of_plain held plain, InputState.plainRead, (InputState.debounce_of_counted held other counts).1 few]
      rfl
    · rw [Bank.readInput_of_plain held plain, InputState.plainRead, (InputState.debounce_of_counted held other counts).2 many]
      exact ⟨rfl, rfl, rfl⟩
  · rintro b period i v time st n readPeriod flash rfl rfl
    refine ⟨rfl, fun unknown => ?_, ?_⟩
    · rw [Bank.readInput_of_unknown unknown, flash]
      exact ⟨_, rfl, rfl, rfl, rfl, rfl, rfl⟩
    · rintro d held counted rfl
      rw [Bank.readInput_of_flash held flash, InputState.flashRead]
      exact ⟨fun unsettled => by simp only [unsettled]; rfl, fun settles => by simp only [settles]; rfl,
        InputState.debounce_settles held⟩
  · intro st r run
    simp [InputState.countRun, run]
  · intro st r period readPeriod n s run settled
    refine ⟨?_, ?_⟩
    · rintro rfl
      exact InputState.endRun_of_flashing run settled
    · intro steady h flashStart after qualifies spoils begins
      have judged : r.judged period readPeriod n = (h, flashStart) := by
        by_cases good : r.openStart = false ∧ r.outlasted = false ∧ 3 * period ≤ 8 * ((r.length - n) * readPeriod)
            ∧ 8 * ((r.length - n) * readPeriod) ≤ 5 * period
        · obtain ⟨start, short, low, high⟩ := good
          obtain ⟨count, first⟩ := qualifies start short low high
          rw [RunData.judged_of_qualifying start short low high, count, first]
        · have other : r.openStart = true ∨ r.outlasted = true ∨ 8 * ((r.length - n) * readPeriod) < 3 * period
              ∨ 5 * period < 8 * ((r.length - n) * readPeriod) := by
            by_contra none
            simp only [not_or, Bool.not_eq_true, Nat.not_lt] at none
            exact good none
          obtain ⟨count, first⟩ := spoils other
          rw [RunData.judged_of_other other, count, first]
      have ended := InputState.endRun_of_steady run settled steady (begins.trans (by rw [judged]))
      rw [judged] at ended
      exact ended
  · intro st r d period readPeriod run held
    refine ⟨fun short long => ?_, fun stays => ?_⟩
    · simp [InputState.testOutlast, run, held, short, runOutlasts, long]
    · have quiet : (!r.outlasted && runOutlasts period readPeriod (r.length - st.count)) = false := by
        rcases stays with outlasted | within
        · simp [outlasted]
        · simp [runOutlasts, Nat.not_lt.mpr within]
      simp [InputState.testOutlast, run, held, quiet]
  · intro c m i st flash held
    rw [ContactFilter.release_state, held, Option.map_some, if_pos flash]
    rfl

end Sys2Proof.Machine
end

section
/-! READ_STATUS: what each block answers, and how long the answer is (R170, R179). -/

namespace Sys2Proof.Machine

/-! ### The blocks, item by item (R170, R179) -/

theorem flagByte_eq (b : Bool) : flagByte b = if b then 1 else 0 := rfl

theorem ContactValue.code_eq (v : ContactValue) : v.code = flagByte (decide (v = .closed)) := by
  cases v <;> rfl

theorem QueueState.code_eq (q : QueueState) : q.code = flagByte (decide (q = .overrun)) := by
  cases q <;> rfl

/-- The list of authority's two states begins with that in which it holds (R179). -/
theorem authorityCode_eq (held : Bool) : (if held then 0 else 1 : Byte) = if !held then 1 else 0 := by
  cases held <;> rfl

theorem keepaliveAge_eq (age : Nat) :
    keepaliveAge age = if age < 2 ^ 32 then toBytes 4 age else toBytes 4 (Config.longAge age).toNat := apply_ite (toBytes 4) _ _ _

/-- A list's first `n` items by their codes, with 0xFF bytes in the place of those it does not have. -/
theorem codes_padded {α : Type} (code : α → Byte) (xs : List α) (n : Nat) :
    (xs.take n).map code ++ List.replicate (n - ((xs.take n).map code).length) 0xFF
      = (List.range n).map fun k => (xs[k]?.map code).getD 0xFF := by
  apply List.ext_getElem
  · simp
  · intro k low high
    rw [List.getElem_map, List.getElem_range]
    rcases Nat.lt_or_ge k xs.length with inside | outside
    · rw [List.getElem?_eq_getElem inside, List.getElem_append_left (by simp at high ⊢; omega)]
      simp
    · rw [List.getElem?_eq_none outside, List.getElem_append_right (by simp; omega)]
      simp

theorem Slot.statusBytes_eq (sl : Slot) :
    sl.statusBytes = toBytes 2 sl.tag.toNat ++ [BitVec.ofNat 8 sl.point, sl.state.code] ++ toBytes 6 sl.accepted.toNat ++ toBytes 4 sl.count
      ++ (List.range 3).map fun k => (sl.steps[k]?.map StepState.code).getD 0xFF := by
  rw [Slot.statusBytes, List.append_assoc _ (List.map _ _), codes_padded]

theorem State.flasherStatus_eq (s : State) :
    s.flasherStatus = absentOr 5 (fun b : Bank => b.memory.flasherMode.code :: toBytes 4 b.counts.nominal) s.active?
      ++ absentOr 4 (toBytes 4) s.flasher.period ++ absentOr 4 (toBytes 4) s.flasher.lastMeasured ++ toBytes 4 s.flasher.cycles
      ++ [s.flasher.measuring, s.flasher.fault, s.flasher.stopped, s.flasher.abandoned].map flagByte := by
  rw [State.flasherStatus]
  cases s.active? <;> rfl

theorem State.changeoverStatus_eq (s : State) :
    s.changeoverStatus = absentOr 4 (fun b : Bank => toBytes 2 b.memory.changeover
      ++ absentOr 2 (fun r : PairRecord => [r.state.code, r.quality.code]) (keyedGet b.memory.changeover s.pairs)) s.active? := by
  rw [State.changeoverStatus]
  cases s.active? <;> rfl

theorem State.evaluatorStatus_eq (s : State) :
    s.evaluatorStatus = toBytes 4 ((s.active?.map fun b => b.memory.objectCount).getD 0)
      ++ [s.evaluator.conditions.loopRunning, s.evaluator.conditions.authority, s.evaluator.conditions.flasherOk,
          s.evaluator.conditions.queueNormal, s.evaluator.conditions.outen, s.evaluator.conditions.outputsHealthy,
          s.evaluator.conditions.timeValid, s.evaluator.conditions.cardsHealthy].map flagByte := rfl

theorem State.deskStatus_afterTaking (s : State) (rest : List RxMessage) (source : Mac) :
    (s.afterTaking rest).deskStatus source = toBytes 6 s.desk.ownAddress.toNat ++ [if s.desk.linkUp then 0 else 1]
      ++ toBytes 4 rest.length ++ [(s.rightsOf source).code] := rfl

/-- Behind the desk port's own items, the data of READ_STATUS is that of the state before the message was taken. -/
theorem State.statusData_afterTaking (s : State) (rest : List RxMessage) (source : Mac) :
    (s.afterTaking rest).statusData source = (s.afterTaking rest).deskStatus source ++ s.tablesStatus ++ s.loop.statusBytes
      ++ s.filter.statusBytes ++ s.flasherStatus ++ s.changeoverStatus ++ s.evaluatorStatus ++ s.reportStatus ++ s.requestStatus := rfl

/-! ### How many bytes each block gives -/

theorem absentOr_length {α : Type} {n : Nat} {f : α → List Byte} (given : ∀ x, (f x).length = n) (o : Option α) :
    (absentOr n f o).length = n := by
  cases o with
  | none => simp [absentOr]
  | some x => exact given x

theorem flatMap_length_of_const {α β : Type} {f : α → List β} {n : Nat} (each : ∀ x, (f x).length = n) (xs : List α) :
    (xs.flatMap f).length = xs.length * n := by
  simp [List.length_flatMap, each]

theorem Bank.statusBytes_length (b : Bank) : b.statusBytes.length = 21 := by
  simp [Bank.statusBytes, absentOr_length (fun c : Word32 => toBytes_length 4 c.toNat),
    absentOr_length (checkResultBytes_length b.state.code)]

theorem State.tablesStatus_length (s : State) : s.tablesStatus.length = 45 := by
  simp [State.tablesStatus, Bank.statusBytes_length]

theorem State.deskStatus_length (s : State) (source : Mac) : (s.deskStatus source).length = 12 := by
  simp [State.deskStatus]

theorem PositionRecord.statusBytes_length (r : PositionRecord) : r.statusBytes.length = 15 := by
  simp [PositionRecord.statusBytes, absentOr_length (n := 5) (f := Card.bytes) (fun c => by simp [Card.bytes])]

theorem LoopController.statusBytes_length (l : LoopController) : l.statusBytes.length = 490 := by
  have positions := flatMap_length_of_const (fun p => (l.position p).statusBytes_length) (List.range 32)
  simp only [List.length_range] at positions
  simp [LoopController.statusBytes, -List.length_flatMap, positions]

theorem ContactFilter.statusBytes_length (c : ContactFilter) : c.statusBytes.length = 1 + c.forced.length * 3 := by
  have entries := flatMap_length_of_const (f := fun x : Nat × ContactValue => toBytes 2 x.1 ++ [x.2.code]) (n := 3) (by simp) c.forced
  simp [ContactFilter.statusBytes, -List.length_flatMap, entries, Nat.add_comm]

theorem State.flasherStatus_length (s : State) : s.flasherStatus.length = 21 := by
  simp [State.flasherStatus, absentOr_length (n := 1) (f := fun b : Bank => [b.memory.flasherMode.code]) (by simp),
    absentOr_length (n := 4) (f := fun b : Bank => toBytes 4 b.counts.nominal) (by simp), absentOr_length (toBytes_length 4)]

theorem State.changeoverStatus_length (s : State) : s.changeoverStatus.length = 4 := by
  simp [State.changeoverStatus, absentOr_length (n := 2) (f := fun b : Bank => toBytes 2 b.memory.changeover) (by simp),
    absentOr_length (n := 2) (f := fun r : PairRecord => [r.state.code, r.quality.code]) (by simp)]

theorem State.evaluatorStatus_length (s : State) : s.evaluatorStatus.length = 12 := by
  simp [State.evaluatorStatus]

theorem State.reportStatus_length (s : State) : s.reportStatus.length = 38 := by
  simp [State.reportStatus, stampBytes_length, absentOr_length (n := 4) (f := fun b : Bank => toBytes 4 b.memory.queueLimit) (by simp)]

theorem Slot.statusBytes_length (sl : Slot) : sl.statusBytes.length = 17 := by
  simp [Slot.statusBytes_eq]

theorem outputWords_length (keys : List Nat) : (outputWords keys).length = 64 := by
  rw [outputWords, flatMap_length_of_const (fun p => toBytes_length 2 (outputBits keys p).toNat)]
  rfl

theorem State.requestStatus_length (s : State) : s.requestStatus.length = 141 + s.request.occupied.length * 17 := by
  simp [State.requestStatus, -List.length_flatMap, flatMap_length_of_const Slot.statusBytes_length, outputWords_length,
    absentOr_length (n := 4) (f := fun a => keepaliveAge (s.clock.own - a)) (by simp [keepaliveAge])]
  omega

theorem State.statusData_length (s : State) (source : Mac) :
    (s.statusData source).length = 764 + s.filter.forced.length * 3 + s.request.occupied.length * 17 := by
  simp only [State.statusData, List.length_append, s.deskStatus_length, s.tablesStatus_length, s.loop.statusBytes_length,
    s.filter.statusBytes_length, s.flasherStatus_length, s.changeoverStatus_length, s.evaluatorStatus_length, s.reportStatus_length,
    s.requestStatus_length]
  omega

theorem RequestEngine.occupied_length_le (r : RequestEngine) : r.occupied.length ≤ r.slots.length := List.length_filterMap_le _ _

/-- Settles O48. -/
theorem readStatusIsAnswered : Obligations.ReadStatusIsAnswered := by
  intro s x rest flag absent offered rights content forced slots flagIs absentIs
  subst flagIs absentIs
  refine ⟨(s.afterTaking rest).statusData x.source, ?_, ?_, fun keys p j small => outputBits_getLsbD keys p j small, ?_⟩
  · show Host.Outcome.next _ = _
    rw [State.management_view s x rest _ _ offered rights content]
    rfl
  · have held := s.request.occupied_length_le
    rw [State.statusData_length, State.afterTaking_filter, State.afterTaking_request]
    omega
  · rw [State.statusData_afterTaking, State.deskStatus_afterTaking, State.flasherStatus_eq, State.changeoverStatus_eq,
      State.evaluatorStatus_eq]
    simp only [State.tablesStatus, Bank.statusBytes, LoopController.statusBytes, PositionRecord.statusBytes, ContactFilter.statusBytes,
      ContactValue.code_eq, QueueState.code_eq, State.reportStatus, State.requestStatus, funext Slot.statusBytes_eq,
      flagByte_eq, authorityCode_eq, outputWords, List.append_assoc, List.cons_append, List.nil_append, List.flatMap_cons, List.flatMap_nil,
      List.append_nil,
      List.map_cons, List.map_nil]
    congr!
    -- what is left is one goal for each item that may be absent, in the order of the reply
    · rcases s.tables.selection with _ | _ | _ <;> rfl
    · cases s.tables.bankA.crc? <;> rfl
    · cases s.tables.bankA.result? <;> rfl
    · cases s.tables.bankB.crc? <;> rfl
    · cases s.tables.bankB.result? <;> rfl
    · next p => cases (s.loop.position p).surveyed <;> rfl
    · cases s.active? <;> rfl
    · cases s.flasher.period <;> rfl
    · cases s.flasher.lastMeasured <;> rfl
    · cases s.active? with
      | none => rfl
      | some b =>
        refine congrArg (toBytes 2 b.memory.changeover ++ ·) ?_
        cases keyedGet b.memory.changeover s.pairs <;> rfl
    · cases s.active? with
      | none => rfl
      | some b => simp only [Option.map_some, Option.getD_some]
    · cases s.active? <;> rfl
    · cases s.request.lastKeepalive with
      | none => rfl
      | some a => simp only [absentOr, keepaliveAge_eq]
    · next sl k => cases sl.steps[k]? <;> rfl

end Sys2Proof.Machine
end

section
/-! The image's terms after a taking up of tables: conditions as they stand, inputs and pairs UNKNOWN (R97). -/

namespace Sys2Proof.Machine

/-! ### One term -/

/-- The term stands as a taking up of tables has it (R97): a condition at its value of `c`, an input or a pair UNKNOWN. -/
def TermState.freshOn (c : Conditions) (tm : TermState) : Prop :=
  (tm.source.kind ≠ .condition → tm.value = none ∧ tm.quality = .unknown)
    ∧ (tm.source.kind = .condition → tm.value = some (c.get tm.source.index).toNat ∧ tm.quality = .good)

theorem resetTerm_freshOn (c : Conditions) (stamp : Stamp) (causeOf : Source → Cause) (src : Source) :
    (resetTerm c stamp causeOf src).freshOn c := by
  unfold TermState.freshOn
  rw [resetTerm_source]
  cases kind : src.kind <;> simp [resetTerm, kind]

/-- A change of the term's own source takes its place in the round; another does not concern it (R89). -/
theorem TermState.take_append (round : List TermChange) (x : TermChange) (tm : TermState) :
    tm.take (round ++ [x]) =
      if x.source = tm.source then { tm with value := x.value, quality := x.quality, stamp := x.stamp, cause := x.cause } else tm.take round := by
  by_cases own : x.source = tm.source
  · simp [TermState.take, lastChange, List.filter_append, own]
  · simp [TermState.take, lastChange, List.filter_append, own]

theorem TermState.take_untouched {round : List TermChange} {tm : TermState} (untouched : tm.touched round = false) : tm.take round = tm := by
  have none : lastChange round tm.source = none := by simpa [TermState.touched] using untouched
  rw [TermState.take, none]

/-- A term takes what a round's last change of its source says. -/
theorem TermState.take_cases (round : List TermChange) (tm : TermState) :
    tm.take round = tm ∨ ∃ x ∈ round, x.source = tm.source
      ∧ tm.take round = { tm with value := x.value, quality := x.quality, stamp := x.stamp, cause := x.cause } := by
  cases last : lastChange round tm.source with
  | none => exact .inl (by rw [TermState.take, last])
  | some x =>
    have picked := List.mem_of_getLast? last
    refine .inr ⟨x, (List.mem_filter.mp picked).1, by simpa using (List.mem_filter.mp picked).2, ?_⟩
    rw [TermState.take, last]

/-- The terms of an object after an evaluation are its terms with the round's changes, whether or not the round touches it. -/
theorem evaluateObject_terms (m : Memory) (round : List TermChange) (j : Nat) (o : ObjectState) :
    (evaluateObject m round j o).1.terms = o.terms.map (TermState.take round) := by
  rw [evaluateObject_state]
  split
  · rfl
  · rename_i none
    have same (tm : TermState) (htm : tm ∈ o.terms) : tm.take round = tm :=
      TermState.take_untouched (Bool.eq_false_iff.mpr fun touched => none (List.any_eq_true.mpr ⟨tm, htm, touched⟩))
    exact (List.map_id _).symm.trans (List.map_congr_left fun tm htm => (same tm htm).symm)

/-! ### A round (R89) -/

/-- Every term of the image, with the changes that the event hands on, stands as a taking up of tables has it. -/
def Event.freshTerms (e : Event) : Prop :=
  ∀ o ∈ e.st.evaluator.objects, ∀ tm ∈ o.terms, (tm.take e.round).freshOn e.st.evaluator.conditions

/-- Every term of the image stands as a taking up of tables has it. -/
def State.freshTerms (s : State) : Prop := (Event.start s).freshTerms

theorem State.freshTerms_iff (s : State) :
    s.freshTerms ↔ ∀ o ∈ s.evaluator.objects, ∀ tm ∈ o.terms, tm.freshOn s.evaluator.conditions := Iff.rfl

theorem Event.freshTerms_of_evaluator {e f : Event} (h : e.freshTerms) (evaluator : f.st.evaluator = e.st.evaluator)
    (round : f.round = e.round) : f.freshTerms := by
  unfold Event.freshTerms
  rwa [evaluator, round]

/-- A condition handed on is what its terms then show. -/
theorem Event.freshTerms.handsOn {e : Event} (h : e.freshTerms) {c : Nat} (hc : c < 8) (v : Bool) (stamp : Stamp) (cause : Cause)
    (before : Option Stamp) :
    Event.freshTerms { st := e.st.withConditions (e.st.evaluator.conditions.put c v),
                       round := e.round ++ [⟨⟨.condition, c⟩, some v.toNat, .good, stamp, cause⟩], authorityStamp := before } := by
  intro o ho tm htm
  rw [TermState.take_append]
  split
  · rename_i own
    refine ⟨fun other => absurd (by rw [← own]) other, fun _ => ⟨?_, rfl⟩⟩
    show some v.toNat = some (((e.st.evaluator.conditions.put c v).get tm.source.index).toNat)
    rw [Conditions.get_put _ _ _ _ hc, ← own]
    simp
  · rename_i other
    obtain ⟨rest, condition⟩ := h o ho tm htm
    rw [TermState.take_source] at rest condition
    refine ⟨by rwa [TermState.take_source], fun kind => ?_⟩
    rw [TermState.take_source] at kind ⊢
    show _ = some (((e.st.evaluator.conditions.put c v).get tm.source.index).toNat) ∧ _
    rw [Conditions.get_put _ _ _ _ hc, if_neg]
    · exact condition kind
    · rintro rfl
      exact other (by rw [← kind])

theorem Event.freshTerms.setCondition {e : Event} (h : e.freshTerms) {c : Nat} (hc : c < 8) (v : Bool) (stamp : Stamp) :
    (e.setCondition c v stamp).freshTerms := by
  unfold Event.setCondition
  split
  · exact h
  · exact h.handsOn hc v stamp _ _

theorem Event.freshTerms.judgeAuthority {e : Event} (h : e.freshTerms) (stamp : Stamp) : (e.judgeAuthority stamp).freshTerms := by
  unfold Event.judgeAuthority
  dsimp only
  split
  · exact h
  · generalize hs : (if e.st.reasonSet.isEmpty = true then _ else _ : State) = s2
    have evaluator : s2.evaluator = e.st.evaluator := by
      rw [← hs]
      split <;> rfl
    have judged : Event.freshTerms { e with st := s2, authorityStamp := some (e.latestAuthorityStamp stamp) } :=
      Event.freshTerms_of_evaluator h evaluator rfl
    split
    · exact judged.handsOn (by decide) _ _ _ _
    · exact judged.setCondition (by decide) _ _

theorem Event.freshTerms.judgeAll {e : Event} (h : e.freshTerms) (stamp : Stamp) : (e.judgeAll stamp).freshTerms :=
  (((h.setCondition (by decide) _ _).setCondition (by decide) _ _).setCondition (by decide) _ _).judgeAuthority _

/-- The round that an event hands on, evaluated (R91). -/
theorem Event.freshTerms.runRound {e : Event} (h : e.freshTerms) {m : Memory} (active : e.st.activeMemory = some m) :
    (e.st.runRound e.round).freshTerms := by
  rw [State.freshTerms_iff, State.runRound_conditions, State.runRound_objects active]
  intro o ho tm htm
  obtain ⟨j, hj, rfl⟩ := List.mem_mapIdx.mp ho
  rw [evaluateObject_terms] at htm
  obtain ⟨before, hbefore, rfl⟩ := List.mem_map.mp htm
  exact h _ (List.getElem_mem hj) before hbefore

theorem Event.freshTerms.finishRound {e : Event} (h : e.freshTerms) {m : Memory} (active : e.st.activeMemory = some m) :
    (e.st.finishRound e.round).freshTerms := by
  have run := h.runRound active
  unfold State.finishRound State.afterOverrun
  split
  · have overrun : ((Event.start (e.st.runRound e.round)).setCondition 3 false (e.st.runRound e.round).now).freshTerms :=
      Event.freshTerms.setCondition run (by decide) _ _
    refine overrun.runRound (m := m) ?_
    simpa [State.activeMemory] using active
  · exact run

theorem Event.freshTerms.close {e : Event} (h : e.freshTerms) {m : Memory} (active : e.st.activeMemory = some m) : e.close.freshTerms := by
  unfold Event.close
  split
  · rename_i empty
    exact Event.freshTerms_of_evaluator h rfl empty.symm
  · exact h.finishRound active

/-! ### The reset round (R97) -/

/-- The reset round gives every term the value of its source (R97). -/
theorem State.resetImage_freshTerms {s : State} {b : Bank} (active : s.activeMemory = some b.memory) (stamp : Stamp)
    (causeOf : Source → Cause) : (s.resetImage b stamp causeOf).freshTerms := by
  let objects := (List.range b.memory.objectCount).map (resetObject b.memory s.evaluator.conditions stamp causeOf)
  have reset (o : ObjectState) (ho : o ∈ objects) (tm : TermState) (htm : tm ∈ o.terms) :
      tm = resetTerm s.evaluator.conditions stamp causeOf tm.source := by
    obtain ⟨j, -, rfl⟩ := List.mem_map.mp ho
    obtain ⟨entry, -, rfl⟩ := List.mem_map.mp htm
    rw [resetTerm_source]
  have fresh : Event.freshTerms { st := { s with evaluator := { s.evaluator with objects := objects } }, round := resetRoundOf objects,
                                  authorityStamp := none } := by
    intro o ho tm htm
    have own : tm.freshOn s.evaluator.conditions := by
      rw [reset o ho tm htm]
      exact resetTerm_freshOn ..
    rcases tm.take_cases (resetRoundOf objects) with same | ⟨x, hx, source, taken⟩
    · rw [same]
      exact own
    · rw [taken]
      obtain ⟨o', ho', hx⟩ := List.mem_flatMap.mp hx
      obtain ⟨tm', htm', rfl⟩ := List.mem_map.mp hx
      have same : tm' = resetTerm s.evaluator.conditions stamp causeOf tm.source := source ▸ reset o' ho' tm' htm'
      have other := resetTerm_freshOn s.evaluator.conditions stamp causeOf tm.source
      rw [← same] at other
      have own : tm'.source = tm.source := source
      rwa [TermState.freshOn, own] at other
  exact fresh.finishRound active

theorem State.switchEffect_freshTerms (s : State) : s.switchEffect.freshTerms := by
  rw [s.switchEffect_eq]
  refine State.resetImage_freshTerms ?_ _ _
  have active := s.switchEffect_active
  rw [s.switchEffect_eq] at active
  simpa [State.activeMemory, State.active?] using congrArg (Option.map Bank.memory) active

/-! ### What an object then shows (R90, R91) -/

theorem objectQuality_unknown {ts : List TermState} {tm : TermState} (htm : tm ∈ ts) (unknown : tm.quality = .unknown) :
    objectQuality ts = .unknown := by
  obtain ⟨-, worst, -⟩ := foldl_worse_spec ts .good
  have least : tm.quality.rank ≤ (objectQuality ts).rank := worst tm htm
  rw [unknown] at least
  revert least
  cases objectQuality ts <;> simp [Quality.rank]

/-- An object with an input or a pair term stands at its fallback and UNKNOWN (R97). -/
theorem ObjectState.good.entry_of_unknown {m : Memory} {j : Nat} {o : ObjectState} (h : o.good m j) {tm : TermState} (htm : tm ∈ o.terms)
    (unknown : tm.quality = .unknown) : o.entry = { indication := (m.objectEntry j).fallback, quality := .unknown } := by
  obtain ⟨-, entry⟩ := h
  rw [entry (List.ne_nil_of_mem htm), shownEntry, objectQuality_unknown htm unknown]

end Sys2Proof.Machine
end

section
/-! What a switch effect leaves, and what the rest of the same event keeps of it: a survey applied on the new bank, and the sweep sent
(R1, R137, R138, R158, log entry 30). -/

namespace Sys2Proof.Machine

/-! ### The request engine without requests (R137) -/

/-- The request engine but for what a judgement of authority and a sweep sent can change while no slot is occupied. -/
def RequestEngine.settledParts (r : RequestEngine) : RequestEngine :=
  { r with authority := false, reasons := ⟨false, false, false, false, false, false⟩, slots := [], carried := [] }

theorem RequestEngine.endSlots_outcomes_of_unoccupied {r : RequestEngine} (free : r.occupied = []) (which : Slot → Bool)
    (result : RequestResult) (stamp : Stamp) (reasons : Option Reasons) :
    (r.endSlots which result stamp reasons).outcomes = r.outcomes := by
  simp [RequestEngine.endSlots, free]

/-- With no slot occupied a judgement of authority changes authority and the reason set alone (R121). -/
theorem RequestEngine.judged_settledParts {r : RequestEngine} (free : r.occupied = []) (reasons : Reasons) (stamp : Stamp) :
    (r.judged reasons stamp).settledParts = r.settledParts ∧ (r.judged reasons stamp).occupied = []
      ∧ (r.judged reasons stamp).carried = r.carried := by
  unfold RequestEngine.judged
  split
  · exact ⟨rfl, free, rfl⟩
  · refine ⟨?_, ?_, rfl⟩
    · have outcomes := RequestEngine.endSlots_outcomes_of_unoccupied (r := { r with authority := reasons.isEmpty, reasons := reasons }) free
        (fun _ => true) .abortedAuthority stamp (some reasons)
      exact congrArg (fun os => { r.settledParts with outcomes := os }) outcomes
    · rw [RequestEngine.endSlots_occupied]
      simp

theorem Event.judgeAuthority_settledParts {e : Event} (free : e.st.request.occupied = []) (stamp : Stamp) :
    (e.judgeAuthority stamp).st.request.settledParts = e.st.request.settledParts
      ∧ (e.judgeAuthority stamp).st.request.occupied = [] ∧ (e.judgeAuthority stamp).st.request.carried = e.st.request.carried := by
  rw [e.judgeAuthority_judged]
  split
  · exact ⟨rfl, free, rfl⟩
  · exact RequestEngine.judged_settledParts free _ _

theorem Event.judgeAll_settledParts {e : Event} (free : e.st.request.occupied = []) (stamp : Stamp) :
    (e.judgeAll stamp).st.request.settledParts = e.st.request.settledParts
      ∧ (e.judgeAll stamp).st.request.occupied = [] ∧ (e.judgeAll stamp).st.request.carried = e.st.request.carried := by
  have request : (((e.judgeLoop stamp).judgeCards stamp).judgeFlasher stamp).st.request = e.st.request := by
    simp [Event.judgeLoop, Event.judgeCards, Event.judgeFlasher]
  rw [Event.judgeAll, ← request]
  exact Event.judgeAuthority_settledParts (by rw [request]; exact free) stamp

/-- With no slot occupied a sweep sent changes the carried states alone (R129, R133). -/
theorem State.sweepSent_settledParts {s : State} (free : s.request.occupied = []) (b : Bank) (on : List Nat) :
    (s.sweepSent b on).request.settledParts = s.request.settledParts ∧ (s.sweepSent b on).request.occupied = [] := by
  have frame := RequestEngine.carry_fold_frame on (b.memory.outputPositions.flatMap fun p => (List.range 16).map (outputKey p))
    (s.request.bringUpToDate b (fun sl => ({ sl with count := sl.count + 1 }).updateSteps b) s.now)
  constructor
  · have outcomes : (s.request.bringUpToDate b (fun sl => ({ sl with count := sl.count + 1 }).updateSteps b) s.now).outcomes
        = s.request.outcomes := by simp [RequestEngine.bringUpToDate, free]
    refine (congrArg RequestEngine.settledParts frame :).trans ?_
    exact congrArg (fun os => { s.request.settledParts with outcomes := os }) outcomes
  · refine List.eq_nil_iff_forall_not_mem.mpr fun sl hsl => ?_
    obtain ⟨sl', hsl', -⟩ := s.sweepSent_occupied b on sl hsl
    simp [free] at hsl'

theorem State.commandedOn_of_unoccupied {s : State} (free : s.request.occupied = []) : s.commandedOn = [] := by
  unfold State.commandedOn
  split
  · rfl
  · rw [free]
    rfl

/-! ### The conditions as an event of the loop judges them (R67, R86, R87, R118) -/

section
variable {e : Event} (t : Stamp)

theorem State.cardsHealthy_of_same {s u : State} (tables : u.tables = s.tables) (loop : u.loop.positions = s.loop.positions) :
    u.cardsHealthy = s.cardsHealthy := by
  have position (p : Nat) : u.loop.position p = s.loop.position p := by rw [LoopController.position, loop, LoopController.position]
  rw [State.cardsHealthy, State.cardsHealthy, State.active_of_tables tables]
  cases s.active? with
  | none => rfl
  | some b => simp only [position]

theorem Event.judgeAll_cardsHealthy : (e.judgeAll t).st.evaluator.conditions.get 7 = e.st.cardsHealthy := by
  rw [Event.judgeAll, Event.judgeAuthority_condition _ t 7 (by decide), Event.judgeFlasher,
    Event.setCondition_other _ _ _ (by decide) (by decide), Event.judgeCards, Event.setCondition_get _ _ _ _ (by decide)]
  exact State.cardsHealthy_of_same (by simp [Event.judgeLoop]) (by simp [Event.judgeLoop])

theorem Event.judgeAll_flasherOk : (e.judgeAll t).st.evaluator.conditions.get 2 = e.st.flasherOk := by
  rw [Event.judgeAll, Event.judgeAuthority_condition _ t 2 (by decide), Event.judgeFlasher, Event.setCondition_get _ _ _ _ (by decide)]
  exact State.flasherOk_of_same (by simp [Event.judgeCards, Event.judgeLoop]) (by simp [Event.judgeCards, Event.judgeLoop])
    (by simp [Event.judgeCards, Event.judgeLoop])

theorem Event.judgeAll_outputsHealthy : (e.judgeAll t).st.evaluator.conditions.get 5 = e.st.evaluator.conditions.get 5 := by
  rw [Event.judgeAll, Event.judgeAuthority_condition _ t 5 (by decide), Event.judgeFlasher,
    Event.setCondition_other _ _ _ (by decide) (by decide), Event.judgeCards, Event.setCondition_other _ _ _ (by decide) (by decide),
    Event.judgeLoop, Event.setCondition_other _ _ _ (by decide) (by decide)]

/-- AUTHORITY, which stood with the request engine's authority, stands with it after the judgement (R118). -/
theorem Event.judgeAuthority_authorityCondition (h : e.st.evaluator.conditions.get 1 = e.st.request.authority) :
    (e.judgeAuthority t).st.evaluator.conditions.get 1 = (e.judgeAuthority t).st.request.authority := by
  rw [(e.judgeAuthority_request t).2]
  unfold Event.judgeAuthority
  dsimp only
  split
  next same =>
    obtain ⟨-, same⟩ := same
    exact h.trans same
  next =>
    split
    · simp [State.withConditions, Conditions.get_put]
    · exact Event.setCondition_get _ _ _ _ (by decide)

theorem Event.judgeAll_authorityCondition (h : e.st.evaluator.conditions.get 1 = e.st.request.authority) :
    (e.judgeAll t).st.evaluator.conditions.get 1 = (e.judgeAll t).st.request.authority := by
  refine Event.judgeAuthority_authorityCondition t ?_
  rw [Event.judgeFlasher, Event.setCondition_other _ _ _ (by decide) (by decide), Event.judgeCards,
    Event.setCondition_other _ _ _ (by decide) (by decide), Event.judgeLoop, Event.setCondition_other _ _ _ (by decide) (by decide)]
  simpa using h

end

/-! ### What a switch effect leaves (R158) -/

/-- What the switch effect on `u` leaves outside the loop controller and the carried states, as it stands at the end of the event. -/
structure State.TookSwitch (u t : State) : Prop where
  tables : t.tables = u.tables.takeSwitch
  filter : t.filter = ContactFilter.startOn u.tables.standby.memory
  flasher : t.flasher = FlasherMonitor.startOn u.tables.standby
  pairs : t.pairs = startPairs u.tables.standby.memory u.now
  desk : t.desk = u.desk
  clock : t.clock = u.clock
  pending : t.pending = u.pending
  queue : (u.report.offerMarker (.tableSwitch u.now (u.tables.standby.crc?.getD 0))).queue <+: t.report.queue
  slicePointer : t.report.slicePointer = 0
  timer : t.report.timer = if u.active?.isNone then some u.tables.standby.memory.reportPeriod else u.report.timer
  request : t.request.settledParts
    = (u.request.takeSwitch (u.active?.map Bank.memory) u.tables.standby u.clock.own u.now).settledParts
  unoccupied : t.request.occupied = []
  reasons : t.request.reasons.changeoverNotDesk = true
  authority : t.request.authority = false
  loopRunning : t.evaluator.conditions.get 0 = t.loopRunning
  noAuthority : t.evaluator.conditions.get 1 = false
  flasherOk : t.evaluator.conditions.get 2 = t.flasherOk
  outputsHealthy : t.evaluator.conditions.get 5 = true
  cardsHealthy : t.evaluator.conditions.get 7 = t.cardsHealthy
  image : t.imageGood
  fresh : t.freshTerms

section
variable {u v : State}

theorem State.TookSwitch.active (h : u.TookSwitch v) : v.active? = some u.tables.standby := by
  rw [State.active_of_tables (s := u.switchEffect) (by rw [h.tables, State.switchEffect_tables])]
  exact u.switchEffect_active

theorem State.TookSwitch.activeMemory (h : u.TookSwitch v) : v.activeMemory = some u.tables.standby.memory := by
  rw [State.activeMemory, h.active]
  rfl

theorem State.TookSwitch.changeover (h : u.TookSwitch v) : v.request.changeover = some (.unknown, .unknown) :=
  (congrArg RequestEngine.changeover h.request :)

theorem State.switchEffect_condition (u : State) (n : Nat) (other : n ≠ 3) :
    u.switchEffect.evaluator.conditions.get n = u.switched.evaluator.conditions.get n := by
  rw [u.switchEffect_eq]
  exact State.finishRound_condition _ _ n other

/-- The changeover pair has just turned UNKNOWN, so authority does not hold (R118, R137). -/
theorem Reasons.isEmpty_of_changeoverNotDesk {r : Reasons} (h : r.changeoverNotDesk = true) : r.isEmpty = false := by
  simp [Reasons.isEmpty, h]

theorem State.switched_changeoverNotDesk (u : State) : u.switched.request.reasons.changeoverNotDesk = true := rfl

theorem State.switched_authority (u : State) : u.switched.request.authority = false :=
  Reasons.isEmpty_of_changeoverNotDesk u.switched_changeoverNotDesk

theorem State.resetImage_prefix (s : State) (b : Bank) (stamp : Stamp) (causeOf : Source → Cause) :
    s.report.queue <+: (s.resetImage b stamp causeOf).report.queue := by
  unfold State.resetImage
  dsimp only
  refine List.IsPrefix.trans ?_ (State.finishRound_prefix _ _)
  exact List.prefix_rfl

theorem State.switched_flasherOk (u : State) : u.switched.evaluator.conditions.get 2 = u.switched.flasherOk :=
  State.settleConditions_flasherOk _

theorem State.switched_cardsHealthy (u : State) : u.switched.evaluator.conditions.get 7 = u.switched.cardsHealthy :=
  State.settleConditions_cardsHealthy _

theorem State.switchEffect_carried (u : State) : u.switchEffect.request.carried = [] := by
  obtain ⟨reasons, request⟩ := u.switchEffect_request
  rw [request]
  rfl

theorem State.switchEffect_tookSwitch (u : State) : u.TookSwitch u.switchEffect where
  tables := u.switchEffect_tables
  filter := u.switchEffect_filter
  flasher := u.switchEffect_flasher
  pairs := u.switchEffect_pairs
  desk := u.switchEffect_desk
  clock := u.switchEffect_clock
  pending := u.switchEffect_pending
  queue := by
    rw [u.switchEffect_eq]
    exact State.resetImage_prefix u.switched u.tables.standby u.now _
  slicePointer := by
    rw [u.switchEffect_eq, State.resetImage_report_slicePointer]
    rfl
  timer := by
    rw [u.switchEffect_eq, State.resetImage_report_timer]
    have timer : u.switched.report.timer
        = if (u.active?.map Bank.memory).isNone then some u.tables.standby.memory.reportPeriod
          else (u.report.offerMarker (.tableSwitch u.now (u.tables.standby.crc?.getD 0))).timer := rfl
    rw [timer, ReportUnit.offerMarker_timer, Option.isNone_map]
  request := by
    obtain ⟨reasons, request⟩ := u.switchEffect_request
    rw [request]
    rfl
  unoccupied := u.switchEffect_occupied
  reasons := by
    rw [u.switchEffect_eq, State.resetImage_request]
    exact u.switched_changeoverNotDesk
  authority := by
    rw [u.switchEffect_eq, State.resetImage_request]
    exact u.switched_authority
  loopRunning := by
    rw [u.switchEffect_condition 0 (by decide), State.loopRunning, u.switchEffect_loop]
    rfl
  noAuthority := by
    rw [u.switchEffect_condition 1 (by decide)]
    exact u.switched_authority
  flasherOk := by
    rw [u.switchEffect_condition 2 (by decide), u.switched_flasherOk]
    exact (State.flasherOk_of_same (s := u.switched) u.switchEffect_tables u.switchEffect_filter u.switchEffect_flasher).symm
  outputsHealthy := u.switchEffect_condition 5 (by decide)
  cardsHealthy := by
    rw [u.switchEffect_condition 7 (by decide), u.switched_cardsHealthy]
    exact (State.cardsHealthy_of_same (s := u.switched) u.switchEffect_tables (congrArg LoopController.positions u.switchEffect_loop :)).symm
  image := switchEffect_imageGood u
  fresh := u.switchEffect_freshTerms

/-- A survey that waits is applied on the new bank (log entry 30), and leaves what the switch effect left. -/
theorem State.TookSwitch.resurveyed (h : u.TookSwitch v) : u.TookSwitch (Event.start v).applyResurvey.close := by
  by_cases waits : v.loop.surveyWaits
  case neg =>
    obtain ⟨resurvey, readmit⟩ := LoopController.not_surveyWaits waits
    rw [Event.applyResurvey_idle (Event.start v) resurvey readmit]
    exact h
  let e : Event := (Event.start v).onState fun s => s.onLoop LoopController.resurveyed
  have applied : (Event.start v).applyResurvey = e.judgeAll v.now := Event.applyResurvey_of_waits waits
  obtain ⟨parts, free, -⟩ := Event.judgeAll_settledParts (e := e) h.unoccupied v.now
  have unauthorised : (e.judgeAll v.now).st.request.authority = false := 
    Event.judgeAll_authority (by simp [e, LoopController.resurveyed, LoopController.enterSurvey]) v.now
  have changeover : (e.judgeAll v.now).st.request.reasons.changeoverNotDesk = true := by
    have request : (((e.judgeLoop v.now).judgeCards v.now).judgeFlasher v.now).st.request = v.request := by
      simp [Event.judgeLoop, Event.judgeCards, Event.judgeFlasher, e]
    rw [Event.judgeAll, (Event.judgeAuthority_request _ v.now).1, State.reasonSet, request, h.changeover]
    rfl
  rw [applied]
  exact {
    tables := by simp [e, h.tables]
    filter := by simp [e, h.filter]
    flasher := by simp [e, h.flasher]
    pairs := by simp [e, h.pairs]
    desk := by simp [e, h.desk]
    clock := by simp [e, h.clock]
    pending := by simp [e, h.pending]
    queue := h.queue.trans (by simpa [e] using (e.judgeAll v.now).close_prefix)
    slicePointer := by simp [e, h.slicePointer]
    timer := by simp [e, h.timer]
    request := by rw [Event.close_request]; exact parts.trans h.request
    unoccupied := by rw [Event.close_request]; exact free
    reasons := by rw [Event.close_request]; exact changeover
    authority := by rw [Event.close_request]; exact unauthorised
    loopRunning := by
      rw [Event.close_condition _ 0 (by decide), Event.judgeAll_loopRunning, State.loopRunning, State.loopRunning]
      simp
    noAuthority := by
      rw [Event.close_condition _ 1 (by decide), Event.judgeAll_authorityCondition _ (h.noAuthority.trans h.authority.symm)]
      exact unauthorised
    flasherOk := by
      rw [Event.close_condition _ 2 (by decide), Event.judgeAll_flasherOk]
      exact (State.flasherOk_of_same (by simp) (by simp) (by simp)).symm
    outputsHealthy := by
      rw [Event.close_condition _ 5 (by decide), Event.judgeAll_outputsHealthy]
      exact h.outputsHealthy
    cardsHealthy := by
      rw [Event.close_condition _ 7 (by decide), Event.judgeAll_cardsHealthy]
      exact (State.cardsHealthy_of_same (by simp) (by simp)).symm
    image := by
      rw [← applied]
      exact ((Reaches.refl (i := .sweepDue) v).applyResurvey (e := Event.start v)).close.keeps State.imageGood
        (fun _ _ change => change.keeps_imageGood) h.image
    fresh := by
      refine Event.freshTerms.close (m := u.tables.standby.memory) (Event.freshTerms.judgeAll ?_ v.now) ?_
      · exact Event.freshTerms_of_evaluator h.fresh rfl rfl
      · rw [State.activeMemory, Event.judgeAll_active]
        exact h.activeMemory }

/-- The sweep that follows leaves what the switch effect left. -/
theorem State.TookSwitch.sent (h : u.TookSwitch v) : u.TookSwitch v.sendSweep := by
  obtain ⟨parts, free⟩ := State.sweepSent_settledParts h.unoccupied u.tables.standby v.commandedOn
  have frame := v.sweepSent_request u.tables.standby v.commandedOn
  have request := State.sendSweep_request h.active
  have loop := State.sendSweep_loop h.active
  exact {
    tables := by simp [h.tables]
    filter := by simp [h.filter]
    flasher := by simp [h.flasher]
    pairs := by simp [h.pairs]
    desk := by simp [h.desk]
    clock := by simp [h.clock]
    pending := by simp [h.pending]
    queue := by simpa using h.queue
    slicePointer := by simp [h.slicePointer]
    timer := by simp [h.timer]
    request := by rw [request]; exact parts.trans h.request
    unoccupied := by rw [request]; exact free
    reasons := by rw [request]; exact (congrArg (fun r => r.reasons.changeoverNotDesk) frame :).trans h.reasons
    authority := by rw [request]; exact (congrArg RequestEngine.authority frame :).trans h.authority
    loopRunning := by
      rw [State.sendSweep_evaluator, h.loopRunning, State.loopRunning, State.loopRunning, loop]
      rfl
    noAuthority := by rw [State.sendSweep_evaluator]; exact h.noAuthority
    flasherOk := by
      rw [State.sendSweep_evaluator, h.flasherOk]
      exact (State.flasherOk_of_same (by simp) (by simp) (by simp)).symm
    outputsHealthy := by rw [State.sendSweep_evaluator]; exact h.outputsHealthy
    cardsHealthy := by
      rw [State.sendSweep_evaluator, h.cardsHealthy]
      exact (State.cardsHealthy_of_same (by simp) (congrArg LoopController.positions loop :)).symm
    image := (Reaches.sendSweep (Reaches.refl (i := .sweepDue) v)).keeps State.imageGood (fun _ _ change => change.keeps_imageGood) h.image
    fresh := Event.freshTerms_of_evaluator h.fresh v.sendSweep_evaluator rfl }

end

end Sys2Proof.Machine
end

section
/-! What an event of the loop leaves of the request engine's keepalive and outcomes, whatever notices it brings (R44, R125, R131). -/

namespace Sys2Proof.Machine

/-- The keepalive stands, and no outcome is taken away. -/
def RequestEngine.carriesOn (r q : RequestEngine) : Prop := q.lastKeepalive = r.lastKeepalive ∧ r.outcomes <+: q.outcomes

theorem RequestEngine.carriesOn.refl (r : RequestEngine) : r.carriesOn r := ⟨rfl, List.prefix_rfl⟩

theorem RequestEngine.carriesOn.trans {r q p : RequestEngine} (h : r.carriesOn q) (h' : q.carriesOn p) : r.carriesOn p :=
  ⟨h'.1.trans h.1, h.2.trans h'.2⟩

theorem RequestEngine.carriesOn_of_same {r q : RequestEngine} (same : q = r) : r.carriesOn q := same ▸ .refl r

theorem RequestEngine.carriesOn_endSlots (r : RequestEngine) (which : Slot → Bool) (result : RequestResult) (stamp : Stamp)
    (reasons : Option Reasons) : r.carriesOn (r.endSlots which result stamp reasons) := ⟨rfl, List.prefix_append _ _⟩

theorem RequestEngine.carriesOn_judged (r : RequestEngine) (reasons : Reasons) (stamp : Stamp) : r.carriesOn (r.judged reasons stamp) := by
  unfold RequestEngine.judged
  split
  · exact ⟨rfl, List.prefix_rfl⟩
  · exact RequestEngine.carriesOn_endSlots { r with authority := reasons.isEmpty, reasons := reasons } _ _ _ _

theorem RequestEngine.carriesOn.inSlotOrder {r q : RequestEngine} (h : r.carriesOn q) : r.carriesOn (q.inSlotOrder r) := by
  obtain ⟨keepalive, outcomes⟩ := h
  refine ⟨keepalive, List.IsPrefix.trans ?_ (q.inSlotOrder_outcomes r).2⟩
  rw [← List.prefix_iff_eq_take.mp outcomes]

section
variable (e : Event)

theorem Event.judgeAuthority_carriesOn (t : Stamp) : e.st.request.carriesOn (e.judgeAuthority t).st.request := by
  rw [e.judgeAuthority_judged]
  split
  · exact .refl _
  · exact RequestEngine.carriesOn_judged ..

theorem Event.judgeAll_carriesOn (t : Stamp) : e.st.request.carriesOn (e.judgeAll t).st.request := by
  have request : (((e.judgeLoop t).judgeCards t).judgeFlasher t).st.request = e.st.request := by
    simp [Event.judgeLoop, Event.judgeCards, Event.judgeFlasher]
  exact (RequestEngine.carriesOn_of_same request).trans (Event.judgeAuthority_carriesOn _ t)

theorem Event.handOn_carriesOn (c : TermChange) : e.st.request.carriesOn (e.handOn c).st.request := by
  unfold Event.handOn State.takeProofNotice
  cases e.st.active? with
  | none => exact .refl _
  | some b => exact RequestEngine.carriesOn_endSlots (e.st.request.noteProof c.source c.value c.quality) _ _ _ _

theorem Event.handOnPair_carriesOn (m : Memory) (n : PairNotice) : e.st.request.carriesOn (Event.handOnPair m e n).st.request := by
  unfold Event.handOnPair
  split
  · exact (e.handOn_carriesOn _).trans (.trans ⟨rfl, List.prefix_rfl⟩ (Event.judgeAuthority_carriesOn _ _))
  · exact e.handOn_carriesOn _

theorem foldl_carriesOn {α : Type} {f : Event → α → Event} (each : ∀ (e : Event) x, e.st.request.carriesOn (f e x).st.request) (xs : List α)
    (e : Event) : e.st.request.carriesOn (xs.foldl f e).st.request := by
  induction xs generalizing e with
  | nil => exact .refl _
  | cons x xs ih => exact (each e x).trans (ih _)

theorem Event.takeBatch_carriesOn (b : Bank) (notices : List InputNotice) (read : Option (Nat × Stamp)) :
    e.st.request.carriesOn (e.takeBatch b notices read).st.request := by
  let e1 := e.onState fun s => { s with pairs := (takePairs b e.st.filter e.st.pairs notices read).1 }
  have inputs := foldl_carriesOn (fun e n => e.handOn_carriesOn (InputNotice.termChange n)) notices e1
  have pairs := foldl_carriesOn (fun e n => e.handOnPair_carriesOn b.memory n) (takePairs b e.st.filter e.st.pairs notices read).2
    (notices.foldl (fun e n => e.handOn n.termChange) e1)
  exact (inputs.trans pairs).inSlotOrder

theorem Event.outages_carriesOn (t : Stamp) : e.st.request.carriesOn (e.outages t).st.request := by
  unfold Event.outages
  cases e.st.active? with
  | none => exact .refl _
  | some b =>
    dsimp only
    generalize List.range 32 = positions
    refine foldl_carriesOn (fun e p => ?_) positions e
    split
    · exact Event.takeBatch_carriesOn (e.onState fun s =>
        { s with filter := (e.st.filter.outage b.memory p t).1, flasher := e.st.flasher.takeOutage b p e.st.filter }) b _ none
    · exact .refl _

theorem Event.loseSweep_carriesOn (b : Bank) (sw : Sweep) : e.st.request.carriesOn (e.loseSweep b sw).st.request :=
  (Event.outages_carriesOn (e.onState _) sw.time).trans (Event.judgeAll_carriesOn _ sw.time)

end

/-! ### The loop controller at the switch effect and after it (R19, R20, R21) -/

section
variable (l : LoopController) (old : Option Memory) (m : Memory)

theorem LoopController.takeSwitch_positions :
    (l.takeSwitch old m).positions = l.positions.mapIdx fun p r => r.takeSwitch m p := by
  unfold LoopController.takeSwitch
  dsimp only
  split
  · rfl
  · rfl
  · split <;> rfl

/-- What a switch effect leaves of the loop controller in any state (R19). -/
theorem LoopController.takeSwitch_kept :
    (l.takeSwitch old m).sweepsSent = l.sweepsSent ∧ (l.takeSwitch old m).sweepsLost = l.sweepsLost
      ∧ (l.takeSwitch old m).pendingResurvey = l.pendingResurvey ∧ (l.takeSwitch old m).pendingReadmit = l.pendingReadmit := by
  unfold LoopController.takeSwitch
  dsimp only
  split
  · exact ⟨rfl, rfl, rfl, rfl⟩
  · exact ⟨rfl, rfl, rfl, rfl⟩
  · split <;> exact ⟨rfl, rfl, rfl, rfl⟩

theorem LoopController.takeSwitch_of_idle (idle : l.state = .idle) : (l.takeSwitch old m).state = .survey := by
  simp [LoopController.takeSwitch, idle, LoopController.enterSurvey]

theorem LoopController.takeSwitch_of_down (down : l.state = .down) :
    l.takeSwitch old m = { l with positions := l.positions.mapIdx fun p r => r.takeSwitch m p } := by
  simp [LoopController.takeSwitch, down]

theorem LoopController.takeSwitch_of_looping (looping : l.state = .survey ∨ l.state = .running) :
    (l.takeSwitch old m).state = if samePlan old m then l.state else .survey := by
  rcases looping with state | state <;>
  · simp only [LoopController.takeSwitch, state]
    split <;> rfl

theorem PositionRecord.takeSwitch_of_unexpected {p : Nat} (r : PositionRecord) (unexpected : m.expectedType p = 0) :
    r.takeSwitch m p = { r with judged := .notExpected, surveyed := none, missed := 0, supplyLow := false, score := 0 } := by
  simp [PositionRecord.takeSwitch, Memory.expected, unexpected]

theorem PositionRecord.takeSwitch_of_expected {p : Nat} (r : PositionRecord) (expected : m.expectedType p ≠ 0) :
    r.takeSwitch m p = { r with judged := if r.judged = .isolated then .missing else r.judged, score := 0 } := by
  unfold PositionRecord.takeSwitch
  split
  · rename_i unexpected
    simp [Memory.expected, expected] at unexpected
  · split <;> rfl

theorem PositionRecord.takeSwitch_judged (p : Nat) (r : PositionRecord) : (r.takeSwitch m p).judged ≠ .isolated := by
  by_cases unexpected : m.expectedType p = 0
  · simp [r.takeSwitch_of_unexpected m unexpected]
  · rw [r.takeSwitch_of_expected m unexpected]
    dsimp only
    split
    · nofun
    · assumption

/-- After the switch effect no position is ISOLATED, so a survey applied on the new bank takes none up (R21). -/
theorem LoopController.resurveyed_of_takeSwitch :
    (l.takeSwitch old m).resurveyed.positions = (l.takeSwitch old m).positions := by
  rw [LoopController.resurveyed, LoopController.takeSwitch_positions]
  refine List.ext_getElem (by simp) fun p _ _ => ?_
  simp only [List.getElem_mapIdx]
  rw [if_neg]
  exact fun ⟨_, isolated⟩ => PositionRecord.takeSwitch_judged m p _ isolated

/-- A sweep lost leaves of each position's record all but its missed reads (R11, R17, R18). -/
theorem LoopController.loseSweep_records (m : Memory) (sw : Sweep) (len : l.positions.length = 32) (p : Nat) (hp : p < 32) :
    ∃ n, (l.loseSweep m sw).position p = { l.position p with missed := n } := by
  rcases LoopController.loseSweep_position (m := m) (sw := sw) len p hp with same | missed
  · exact ⟨_, same⟩
  · exact ⟨_, missed⟩

end

end Sys2Proof.Machine
end

section
/-! The table switch takes effect (R19, R97, R137, R138, R157, R158): the ways to it, and what stands after it. -/

namespace Sys2Proof.Machine

/-! ### The state in which the switch takes effect -/

/-- The switch of a command on `s` takes effect in state `u`: `s` itself, its message answered, its restart delay ended, or its sweep in
flight judged lost (R157). -/
structure State.ReadyToSwitch (s u : State) : Prop where
  tables : u.tables = s.tables
  clock : u.clock = s.clock
  pending : u.pending = s.pending
  queue : s.report.queue <+: u.report.queue
  timer : u.report.timer = s.report.timer
  request : s.request.carriesOn u.request
  unlost : s.loop.inFlight = none → u.report = s.report ∧ u.request = s.request
  records : ∀ p, p < 32 → ∃ n, u.loop.position p = { s.loop.position p with missed := n }
  length : u.loop.positions.length = 32

/-- Where no sweep is lost on the way, the state differs in the loop controller and the desk port at most. -/
theorem State.readyToSwitch_of_same {s u : State} (tables : u.tables = s.tables) (clock : u.clock = s.clock) (pending : u.pending = s.pending)
    (report : u.report = s.report) (request : u.request = s.request) (positions : u.loop.positions = s.loop.positions)
    (length : s.loop.positions.length = 32) : s.ReadyToSwitch u where
  tables := tables
  clock := clock
  pending := pending
  queue := report ▸ List.prefix_rfl
  timer := congrArg ReportUnit.timer report
  request := RequestEngine.carriesOn_of_same request
  unlost := fun _ => ⟨report, request⟩
  records := fun p _ => ⟨(s.loop.position p).missed, by rw [LoopController.position, positions, LoopController.position]⟩
  length := positions ▸ length

/-- Where the sweep in flight is lost, the event of the loss is complete before the switch (R1, R157). -/
theorem State.readyToSwitch_of_lost {s : State} {b : Bank} {sw : Sweep} (flight : s.loop.inFlight = some sw)
    (length : s.loop.positions.length = 32) : s.ReadyToSwitch ((Event.start s).loseSweep b sw).close := by
  obtain ⟨tables, -, clock, pending, report⟩ := (Event.start s).loseSweep_frame b sw
  have records (p : Nat) (hp : p < 32) := s.loop.loseSweep_records b.memory sw length p hp
  have lostLength : (s.loop.loseSweep b.memory sw).positions.length = 32 := by
    cases kind : sw.kind with
    | read =>
      rw [LoopController.loseSweep_of_read kind]
      exact (List.length_mapIdx ..).trans length
    | survey =>
      rw [LoopController.loseSweep_of_survey kind]
      exact (List.length_mapIdx ..).trans length
  have loop : ((Event.start s).loseSweep b sw).close.loop
      = if 3 ≤ s.loop.lostCount + 1 then (s.loop.loseSweep b.memory sw).enterDown else s.loop.loseSweep b.memory sw :=
    (Event.close_loop _).trans ((Event.start s).loseSweep_loop b sw)
  exact {
    tables := (Event.close_tables _).trans tables
    clock := (Event.close_clock _).trans clock
    pending := (Event.close_pending _).trans pending
    queue := (congrArg ReportUnit.queue report :) ▸ ((Event.start s).loseSweep b sw).close_prefix
    timer := (Event.close_report_timer _).trans (congrArg ReportUnit.timer report :)
    request := by rw [Event.close_request]; exact (Event.start s).loseSweep_carriesOn b sw
    unlost := fun landed => by simp [flight] at landed
    records := fun p hp => by
      obtain ⟨n, record⟩ := records p hp
      rw [loop]
      split
      · rw [LoopController.enterDown_position _ p (by omega), record]
        split
        · exact ⟨3, rfl⟩
        · exact ⟨n, rfl⟩
      · exact ⟨n, record⟩
    length := by
      rw [loop]
      split
      · exact (List.length_map ..).trans lostLength
      · exact lostLength }

/-! ### The loop controller and the desk port after the switch (R1, R18, R19, R164) -/

/-- The third sweep in a row is lost in the event of the switch (R1, R18). -/
def State.losesThird (s : State) : Bool :=
  s.loop.inFlight.isSome && decide (2 ≤ s.loop.lostCount) && decide (s.loop.state ≠ .down)

/-- What stands of the loop controller, the carried states and the desk port after the switch to tables `m`, by the loop's state. -/
structure State.LoopAfterSwitch (s t : State) (m : Memory) : Prop where
  down : s.loop.state = .down → t.loop.state = .down ∧ t.loop.retryWait = s.loop.retryWait ∧ t.loop.sweepsSent = s.loop.sweepsSent
    ∧ t.request.carried = []
  third : s.losesThird = true → t.loop.state = .down ∧ t.loop.retryWait = some 1000 ∧ t.loop.inFlight = none ∧ t.loop.sweepTimer = none
    ∧ t.loop.sweepsSent = s.loop.sweepsSent ∧ t.loop.sweepsLost = s.loop.sweepsLost + 1 ∧ t.request.carried = []
  idle : s.loop.state = .idle → t.loop.state = .survey
  looping : (s.loop.state = .survey ∨ s.loop.state = .running) → s.losesThird = false →
    s.loop.pendingResurvey = false → s.loop.pendingReadmit = [] →
    t.loop.state = if samePlan (s.active?.map Bank.memory) m then s.loop.state else .survey
  sends : s.loop.state ≠ .down → s.losesThird = false → t.loop.sweepsSent = s.loop.sweepsSent + 1
    ∧ t.loop.sweepTimer = some m.sweepPeriod
    ∧ (∃ sw, t.loop.inFlight = some sw ∧ t.loop.loopOut = sweepFrame sw m.outputPositions [])
    ∧ ∀ p ∈ m.outputPositions, ∀ j, j < 16 → t.request.carriedOf (outputKey p j) = { state := some false, grace := 2 }
  untold : (s.loop.state = .survey ∨ s.loop.state = .running) → t.desk = s.desk
  answered : ∀ x rest, s.desk.receiveQueue = x :: rest → (s.loop.state = .idle ∨ s.loop.state = .down) →
    t.desk = ((s.afterTaking rest).repliedTo x 0x15 .ok []).desk

section
variable {u v : State}

/-- Nothing is commanded on when the sweep after a switch leaves, so every output is carried off (R128, R133, R137). -/
theorem State.TookSwitch.sends (h : u.TookSwitch v) (uncarried : v.request.carried = []) :
    v.sendSweep.loop.sweepsSent = v.loop.sweepsSent + 1 ∧ v.sendSweep.loop.sweepTimer = some u.tables.standby.memory.sweepPeriod
      ∧ (∃ sw, v.sendSweep.loop.inFlight = some sw ∧ v.sendSweep.loop.loopOut = sweepFrame sw u.tables.standby.memory.outputPositions [])
      ∧ ∀ p ∈ u.tables.standby.memory.outputPositions, ∀ j, j < 16 →
        v.sendSweep.request.carriedOf (outputKey p j) = { state := some false, grace := 2 } := by
  have off := State.commandedOn_of_unoccupied h.unoccupied
  have loop := State.sendSweep_loop h.active
  have request := State.sendSweep_request h.active
  rw [off] at loop request
  rw [loop, request]
  refine ⟨rfl, rfl, ⟨_, rfl, rfl⟩, fun p hp j hj => ?_⟩
  have absent : (v.request.carriedOf (outputKey p j)).state = none := by
    rw [RequestEngine.carriedOf, uncarried]
    rfl
  rw [State.sweepSent_carriedOf, if_pos ((mem_outputKeys _ _).mpr ⟨p, hp, j, hj, rfl⟩), absent, if_neg nofun]
  rfl

/-- A survey applied on the new bank leaves the positions as the switch effect left them (log entry 30). -/
theorem State.switchEffect_resurveyed (u : State) :
    (Event.start u.switchEffect).applyResurvey.close.loop.positions = u.switchEffect.loop.positions
      ∧ (Event.start u.switchEffect).applyResurvey.close.loop.sweepsSent = u.loop.sweepsSent
      ∧ (Event.start u.switchEffect).applyResurvey.close.request.carried = [] := by
  obtain ⟨sent, -⟩ := u.loop.takeSwitch_kept (u.active?.map Bank.memory) u.tables.standby.memory
  rw [← u.switchEffect_loop] at sent
  by_cases waits : u.switchEffect.loop.surveyWaits
  · have applied := Event.applyResurvey_of_waits (e := Event.start u.switchEffect) waits
    obtain ⟨-, -, carried⟩ := Event.judgeAll_settledParts
      (e := (Event.start u.switchEffect).onState fun s => s.onLoop LoopController.resurveyed) u.switchEffect_occupied u.switchEffect.now
    rw [applied, Event.close_loop, Event.close_request, Event.judgeAll_loop]
    refine ⟨?_, sent, carried.trans u.switchEffect_carried⟩
    show u.switchEffect.loop.resurveyed.positions = u.switchEffect.loop.positions
    rw [u.switchEffect_loop]
    exact u.loop.resurveyed_of_takeSwitch _ _
  · obtain ⟨resurvey, readmit⟩ := LoopController.not_surveyWaits waits
    rw [Event.applyResurvey_idle (Event.start u.switchEffect) resurvey readmit]
    exact ⟨rfl, sent, u.switchEffect_carried⟩

end

/-! ### The ways to the switch (R157) -/

/-- The switch takes effect on the way from `s` to `t`: in state `u`, with what it leaves in every block. -/
def State.switchesTo (s t : State) : Prop :=
  ∃ u, s.ReadyToSwitch u ∧ u.TookSwitch t
    ∧ t.loop.positions = u.loop.positions.mapIdx (fun p r => r.takeSwitch s.tables.standby.memory p)
    ∧ s.LoopAfterSwitch t s.tables.standby.memory

section
variable {s u : State}

/-- With the loop DOWN the switch sends no sweep, whether the wait runs on or has just begun (R18, R19). -/
theorem State.switchesTo_resting (ready : s.ReadyToSwitch u) (resting : u.loop.state = .down)
    (lasting : s.loop.state = .down → u.loop.retryWait = s.loop.retryWait ∧ u.loop.sweepsSent = s.loop.sweepsSent
      ∧ ∀ x rest, s.desk.receiveQueue = x :: rest → u.desk = ((s.afterTaking rest).repliedTo x 0x15 .ok []).desk)
    (entered : s.loop.state ≠ .down → s.losesThird = true ∧ (s.loop.state = .survey ∨ s.loop.state = .running)
      ∧ u.loop.retryWait = some 1000 ∧ u.loop.inFlight = none ∧ u.loop.sweepTimer = none
      ∧ u.loop.sweepsSent = s.loop.sweepsSent ∧ u.loop.sweepsLost = s.loop.sweepsLost + 1 ∧ u.desk = s.desk) :
    s.switchesTo u.switchEffect := by
  have loop := u.switchEffect_loop.trans (u.loop.takeSwitch_of_down _ _ resting)
  have positions : u.switchEffect.loop.positions = u.loop.positions.mapIdx (fun p r => r.takeSwitch s.tables.standby.memory p) := by
    rw [loop, ready.tables]
  have carried := u.switchEffect_carried
  refine ⟨u, ready, u.switchEffect_tookSwitch, positions, ?_⟩
  rw [← ready.tables]
  constructor
  case down =>
    intro down
    obtain ⟨wait, sent, -⟩ := lasting down
    rw [loop]
    exact ⟨resting, wait, sent, carried⟩
  case third =>
    intro third
    have up : s.loop.state ≠ .down := by simpa [State.losesThird] using fun down => by simp [State.losesThird, down] at third
    obtain ⟨-, -, wait, flight, timer, sent, lost, -⟩ := entered up
    rw [loop]
    exact ⟨resting, wait, flight, timer, sent, lost, carried⟩
  case idle =>
    intro idle
    obtain ⟨-, looping, -⟩ := entered (by simp [idle])
    simp [idle] at looping
  case looping =>
    intro looping few
    have up : s.loop.state ≠ .down := by rcases looping with h | h <;> simp [h]
    simp [(entered up).1] at few
  case sends =>
    intro up few
    simp [(entered up).1] at few
  case untold =>
    intro looping
    have up : s.loop.state ≠ .down := by rcases looping with h | h <;> simp [h]
    obtain ⟨-, -, -, -, -, -, -, desk⟩ := entered up
    exact u.switchEffect_desk.trans desk
  case answered =>
    intro x rest received still
    by_cases down : s.loop.state = .down
    · obtain ⟨-, -, desk⟩ := lasting down
      exact u.switchEffect_desk.trans (desk x rest received)
    · obtain ⟨-, looping, -⟩ := entered down
      rcases looping with h | h <;> simp [h] at still

/-- In SURVEY and RUNNING the switch comes first, then a survey that waits, then the next sweep (R1, R158, log entry 30). -/
theorem State.switchesTo_sending (ready : s.ReadyToSwitch u) (looping : s.loop.state = .survey ∨ s.loop.state = .running)
    (few : s.losesThird = false) (state : u.loop.state = s.loop.state) (sent : u.loop.sweepsSent = s.loop.sweepsSent)
    (resurvey : u.loop.pendingResurvey = s.loop.pendingResurvey) (readmit : u.loop.pendingReadmit = s.loop.pendingReadmit)
    (desk : u.desk = s.desk) : s.switchesTo (Event.start u.switchEffect).applyResurvey.close.sendSweep := by
  have took := u.switchEffect_tookSwitch.resurveyed
  obtain ⟨samePositions, sameSent, uncarried⟩ := u.switchEffect_resurveyed
  have loop := State.sendSweep_loop took.active
  obtain ⟨next, timer, frame, carried⟩ := took.sends uncarried
  have up : s.loop.state ≠ .down := by rcases looping with h | h <;> simp [h]
  refine ⟨u, ready, took.sent, ?_, ?_⟩
  · rw [loop, ← ready.tables]
    exact samePositions.trans ((congrArg LoopController.positions u.switchEffect_loop).trans (u.loop.takeSwitch_positions _ _))
  rw [← ready.tables]
  constructor
  case down => exact fun down => absurd down up
  case third => exact fun third => by simp [third] at few
  case idle =>
    intro idle
    simp [idle] at looping
  case looping =>
    intro _ _ noResurvey noReadmit
    obtain ⟨-, -, keptResurvey, keptReadmit⟩ := u.loop.takeSwitch_kept (u.active?.map Bank.memory) u.tables.standby.memory
    rw [← u.switchEffect_loop] at keptResurvey keptReadmit
    have idle := Event.applyResurvey_idle (Event.start u.switchEffect) (keptResurvey.trans (resurvey.trans noResurvey))
      (keptReadmit.trans (readmit.trans noReadmit))
    rw [loop, LoopController.sent, idle]
    show u.switchEffect.loop.state = _
    rw [u.switchEffect_loop, u.loop.takeSwitch_of_looping _ _ (by rwa [state]), state, State.active_of_tables ready.tables]
  case sends => exact fun _ _ => ⟨next.trans (congrArg (· + 1) (sameSent.trans sent)), timer, frame, carried⟩
  case untold => exact fun _ => took.sent.desk.trans desk
  case answered =>
    intro x rest _ still
    rcases looping with h | h <;> simp [h] at still

end

/-- SWITCH_TABLES in IDLE and DOWN (R157). -/
theorem State.switchTables_switchesTo {s t : State} {x : RxMessage} {rest : List RxMessage} {r : CheckResult} {counts : CountSet}
    (offered : s.offers x rest 0x15) (rights : s.rightsOf x.source = .maintain) (unchecked : s.checking = false)
    (unswitched : s.tables.switchPending = false) (good : s.tables.standby.state = .checkedGood r counts)
    (content : x.content = toBytes 4 r.crc.toNat) (landed : s.loop.inFlight = none) (still : s.loop.state = .idle ∨ s.loop.state = .down)
    (length : s.loop.positions.length = 32) (ran : exec .switchTables s = .next t) : s.switchesTo t := by
  let u := (s.afterTaking rest).repliedTo x 0x15 .ok []
  have accepted : exec .switchTables s = .next u.acceptSwitch := by
    rw [exec_switchTables_offers offered rights content, if_neg (by simp [s.afterTaking_free rest unchecked unswitched])]
    simp only [good, ne_eq, not_true_eq_false, if_false]
    rfl
  obtain rfl : u.acceptSwitch = t := Host.Outcome.next.inj (accepted.symm.trans ran)
  have ready : s.ReadyToSwitch u := State.readyToSwitch_of_same rfl rfl rfl rfl rfl rfl length
  have few : s.losesThird = false := by simp [State.losesThird, landed]
  have head (y : RxMessage) (rest' : List RxMessage) (received : s.desk.receiveQueue = y :: rest') :
      u.desk = ((s.afterTaking rest').repliedTo y 0x15 .ok []).desk := by
    obtain ⟨queue, -⟩ := offered
    obtain ⟨rfl, rfl⟩ := List.cons.inj (queue.symm.trans received)
    rfl
  rcases still with idle | down
  · have sends : u.acceptSwitch = u.switchEffect.sendSweep := by
      have state : u.loop.state = .idle := idle
      simp [State.acceptSwitch, state]
    rw [sends]
    have took := u.switchEffect_tookSwitch
    obtain ⟨next, timer, frame, carried⟩ := took.sends u.switchEffect_carried
    obtain ⟨sent, -⟩ := u.loop.takeSwitch_kept (u.active?.map Bank.memory) u.tables.standby.memory
    rw [← u.switchEffect_loop] at sent
    have loop := State.sendSweep_loop took.active
    refine ⟨u, ready, took.sent, ?_, ?_⟩
    · rw [loop]
      exact (congrArg LoopController.positions u.switchEffect_loop).trans (u.loop.takeSwitch_positions _ _)
    constructor
    case down => exact fun down => by simp [idle] at down
    case third => exact fun third => by simp [third] at few
    case idle =>
      intro _
      rw [loop, LoopController.sent]
      exact (congrArg LoopController.state u.switchEffect_loop).trans (u.loop.takeSwitch_of_idle _ _ idle)
    case looping => exact fun looping => by simp [idle] at looping
    case sends => exact fun _ _ => ⟨next.trans (congrArg (· + 1) sent), timer, frame, carried⟩
    case untold => exact fun looping => by simp [idle] at looping
    case answered => exact fun y rest' received _ => took.sent.desk.trans (head y rest' received)
  · have rests : u.acceptSwitch = u.switchEffect := by
      have state : u.loop.state = .down := down
      simp [State.acceptSwitch, state]
    rw [rests]
    exact State.switchesTo_resting ready down (fun _ => ⟨rfl, rfl, head⟩) fun up => absurd down up

theorem LoopController.loseSweep_kept (l : LoopController) (m : Memory) (sw : Sweep) :
    (l.loseSweep m sw).state = l.state ∧ (l.loseSweep m sw).sweepsSent = l.sweepsSent ∧ (l.loseSweep m sw).sweepsLost = l.sweepsLost + 1
      ∧ (l.loseSweep m sw).pendingResurvey = l.pendingResurvey ∧ (l.loseSweep m sw).pendingReadmit = l.pendingReadmit := by
  cases kind : sw.kind with
  | read =>
    rw [LoopController.loseSweep_of_read kind]
    exact ⟨rfl, rfl, rfl, rfl, rfl⟩
  | survey =>
    rw [LoopController.loseSweep_of_survey kind]
    exact ⟨rfl, rfl, rfl, rfl, rfl⟩

/-- SWEEP_DUE with a switch pending, with the last sweep returned or lost (R1, R157). -/
theorem State.sweepDue_switchesTo {s : State} {b : Bank} (pending : s.tables.switchPending = true)
    (looping : s.loop.state = .survey ∨ s.loop.state = .running) (length : s.loop.positions.length = 32) :
    s.switchesTo (s.sweepDue b) := by
  have up : s.loop.state ≠ .down := by rcases looping with h | h <;> simp [h]
  cases flight : s.loop.inFlight with
  | none =>
    have due : s.sweepDue b = (Event.start s.switchEffect).applyResurvey.close.sendSweep :=
      (State.sweepDue_of_waits flight up b).trans (if_pos pending)
    rw [due]
    exact State.switchesTo_sending (State.readyToSwitch_of_same rfl rfl rfl rfl rfl rfl length) looping (by simp [State.losesThird, flight])
      rfl rfl rfl rfl rfl
  | some sw =>
    have ready := State.readyToSwitch_of_lost (b := b) flight length
    have settled : (Event.start s).settleSweep b = (Event.start s).loseSweep b sw := by simp [Event.settleSweep, flight]
    have loop := (Event.start s).loseSweep_loop b sw
    have closed := (Event.close_loop ((Event.start s).loseSweep b sw)).trans loop
    obtain ⟨tables, desk, -⟩ := (Event.start s).loseSweep_frame b sw
    have told := (Event.close_desk ((Event.start s).loseSweep b sw)).trans desk
    have stillPending : ((Event.start s).loseSweep b sw).st.tables.switchPending = true := by rw [tables]; exact pending
    obtain ⟨state, sent, lost, resurvey, readmit⟩ := s.loop.loseSweep_kept b.memory sw
    by_cases third : 2 ≤ s.loop.lostCount
    · rw [if_pos (show 3 ≤ (Event.start s).st.loop.lostCount + 1 by exact Nat.succ_le_succ third)] at loop closed
      have due : s.sweepDue b = ((Event.start s).loseSweep b sw).close.switchEffect := by
        rw [State.sweepDue, settled]
        exact (if_pos (by rw [loop]; rfl)).trans (if_pos stillPending)
      rw [due]
      refine State.switchesTo_resting ready (by rw [closed]; rfl) (fun down => absurd down up) fun _ => ?_
      rw [closed]
      exact ⟨by simp [State.losesThird, flight, third, up], looping, rfl, rfl, rfl, sent, lost, told⟩
    · rw [if_neg (show ¬3 ≤ (Event.start s).st.loop.lostCount + 1 from fun many => third (Nat.le_of_succ_le_succ many))] at loop closed
      have due : s.sweepDue b = (Event.start ((Event.start s).loseSweep b sw).close.switchEffect).applyResurvey.close.sendSweep := by
        rw [State.sweepDue, settled]
        refine (if_neg ?_).trans (if_pos stillPending)
        rw [loop, Event.start_st, state]
        exact up
      rw [due]
      refine State.switchesTo_sending ready looping (by simp [State.losesThird, third]) ?_ ?_ ?_ ?_ told
      · rw [closed]; exact state
      · rw [closed]; exact sent
      · rw [closed]; exact resurvey
      · rw [closed]; exact readmit

/-- RESTART_SURVEY_DELAY with a switch pending (log entry 19). -/
theorem State.restartSurveyDelay_switchesTo {s t : State} (elapsed : s.loop.restartDelay = some 0) (landed : s.loop.inFlight = none)
    (pending : s.tables.switchPending = true) (surveying : s.loop.state = .survey) (length : s.loop.positions.length = 32)
    (ran : exec .restartSurveyDelay s = .next t) : s.switchesTo t := by
  let e : Event := (Event.start s).onState fun s => s.onLoop fun l => { l with restartDelay := none }
  obtain rfl : e.applyAndSend = t := Host.Outcome.next.inj ((exec_restartSurveyDelay elapsed).symm.trans ran)
  have applied : e.applyAndSend = (Event.start e.close.switchEffect).applyResurvey.close.sendSweep := if_pos pending
  rw [applied]
  exact State.switchesTo_sending (State.readyToSwitch_of_same rfl rfl rfl rfl rfl rfl length) (.inl surveying)
    (by simp [State.losesThird, landed]) rfl rfl rfl rfl rfl

end Sys2Proof.Machine
end

section
/-! What stands in each block once a table switch has taken effect (R19, R51, R81, R97, R109, R137, R138), and the obligation. -/

namespace Sys2Proof.Machine

section
variable {s u t : State}

/-! ### Tables, inputs, pairs and the report unit -/

theorem State.TookSwitch.tables_of_ready (took : u.TookSwitch t) (ready : s.ReadyToSwitch u) :
    t.tables = { s.tables with selection := some s.tables.standbyName, switchPending := false } := by
  rw [took.tables, ready.tables]
  rfl

theorem State.TookSwitch.inputs_unknown (took : u.TookSwitch t) :
    ∀ y ∈ t.filter.inputs, y.2.debounced = none ∧ y.2.candidate = none ∧ y.2.settled = none ∧ y.2.run = none := by
  intro y hy
  rw [took.filter] at hy
  rw [ContactFilter.startOn_inputs _ y hy]
  exact ⟨rfl, rfl, rfl, rfl⟩

theorem ContactFilter.startOn_keys (m : Memory) : (ContactFilter.startOn m).inputs.map Prod.fst = m.mappedInputs := by
  simp [ContactFilter.startOn, Function.comp_def]

theorem startPairs_keys (m : Memory) (stamp : Stamp) : (startPairs m stamp).map Prod.fst = m.pairNumbers := by
  simp [startPairs, Function.comp_def]

theorem State.TookSwitch.pairs_unknown (took : u.TookSwitch t) :
    ∀ y ∈ t.pairs, y.2.state = .unknown ∧ y.2.quality = .unknown ∧ y.2.transit = 0 := by
  intro y hy
  rw [took.pairs] at hy
  rw [startPairs_unknown _ _ y hy]
  exact ⟨rfl, rfl, rfl⟩

/-- The marker is dropped at 512 records (R106); it never takes a record away. -/
theorem ReportUnit.offerMarker_prefix (r : ReportUnit) (m : Record) : r.queue <+: (r.offerMarker m).queue := by
  unfold ReportUnit.offerMarker
  split
  · exact List.prefix_append _ _
  · exact List.prefix_rfl

theorem State.TookSwitch.queue_of_ready (took : u.TookSwitch t) (ready : s.ReadyToSwitch u) : s.report.queue <+: t.report.queue :=
  (ready.queue.trans (u.report.offerMarker_prefix _)).trans took.queue

/-- With no sweep in flight the marker follows the queue directly (R158). -/
theorem State.TookSwitch.marker (took : u.TookSwitch t) (ready : s.ReadyToSwitch u) (landed : s.loop.inFlight = none)
    (room : s.report.queue.length < 512) :
    s.report.queue ++ [.tableSwitch s.report.timeBase (s.tables.standby.crc?.getD 0)] <+: t.report.queue := by
  obtain ⟨report, -⟩ := ready.unlost landed
  have queue := took.queue
  rwa [State.now_eq, report, ready.tables, ReportUnit.offerMarker_of_room _ _ room] at queue

theorem State.TookSwitch.timer_of_ready (took : u.TookSwitch t) (ready : s.ReadyToSwitch u) :
    (s.tables.selection = none → t.report.timer = some s.tables.standby.memory.reportPeriod)
      ∧ (s.tables.selection ≠ none → t.report.timer = s.report.timer) := by
  have timer := took.timer
  rw [State.active_of_tables ready.tables, ready.tables, ready.timer] at timer
  refine ⟨fun first => ?_, fun later => ?_⟩
  · rw [timer, s.active_eq_none_iff.mpr first]
    rfl
  · have active : s.active?.isNone = false :=
      Option.isNone_eq_false_iff.mpr (Option.isSome_iff_ne_none.mpr (mt s.active_eq_none_iff.mp later))
    rw [timer, active]
    rfl

/-! ### The request engine (R137, R138) -/

theorem State.TookSwitch.outcomes (took : u.TookSwitch t) :
    t.request.outcomes = (u.request.endSlots (fun _ => true) .abortedTableSwitch u.now none).outcomes :=
  (congrArg RequestEngine.outcomes took.request :).trans (RequestEngine.keepaliveAtSwitch_slots _ _ _ _).2

theorem State.TookSwitch.outcomes_of_ready (took : u.TookSwitch t) (ready : s.ReadyToSwitch u) :
    s.request.outcomes <+: t.request.outcomes := by
  obtain ⟨-, before⟩ := ready.request
  rw [took.outcomes]
  exact before.trans (List.prefix_append _ _)

/-- With no sweep in flight every slot ends ABORTED_TABLE_SWITCH (R137). -/
theorem State.TookSwitch.aborts (took : u.TookSwitch t) (ready : s.ReadyToSwitch u) (landed : s.loop.inFlight = none) :
    t.request.outcomes = s.request.outcomes ++ s.request.occupied.map (fun sl =>
      { tag := sl.tag, point := some sl.point, result := .abortedTableSwitch, stamp := s.report.timeBase, reasons := none }) := by
  obtain ⟨report, request⟩ := ready.unlost landed
  rw [took.outcomes, State.now_eq, report, request, RequestEngine.endSlots_outcomes]
  simp [Slot.outcome]

theorem State.TookSwitch.blocked (took : u.TookSwitch t) : t.request.blocked = [] := (congrArg RequestEngine.blocked took.request :)

theorem State.TookSwitch.proofs (took : u.TookSwitch t) : t.request.proofs = u.tables.standby.memory.proofSources :=
  (congrArg RequestEngine.proofs took.request :)

theorem RequestEngine.takeSwitch_of_stays (r : RequestEngine) {old : Option Memory} {b : Bank} (stays : keepaliveStays old b.memory = true)
    (own : Nat) (now : Stamp) :
    (r.takeSwitch old b own now).mismatch = false ∧ (r.takeSwitch old b own now).lastKeepalive = r.lastKeepalive
      ∧ (r.takeSwitch old b own now).expired = r.lastKeepalive.any fun a => decide (b.counts.watchdog ≤ own - a) := by
  unfold RequestEngine.takeSwitch
  rw [stays]
  exact ⟨rfl, rfl, rfl⟩

theorem RequestEngine.takeSwitch_of_ends (r : RequestEngine) {old : Option Memory} {b : Bank} (ends : keepaliveStays old b.memory = false)
    (own : Nat) (now : Stamp) :
    (r.takeSwitch old b own now).mismatch = false ∧ (r.takeSwitch old b own now).lastKeepalive = none
      ∧ (r.takeSwitch old b own now).expired = false := by
  unfold RequestEngine.takeSwitch
  rw [ends]
  exact ⟨rfl, rfl, rfl⟩

/-- The keepalive, the expired flag and the mismatch flag are those of R138. -/
theorem State.TookSwitch.keepalive (took : u.TookSwitch t) :
    t.request.mismatch = false
      ∧ (keepaliveStays (u.active?.map Bank.memory) u.tables.standby.memory = true →
          t.request.lastKeepalive = u.request.lastKeepalive
            ∧ t.request.expired = u.request.lastKeepalive.any fun a => decide (u.tables.standby.counts.watchdog ≤ u.clock.own - a))
      ∧ (keepaliveStays (u.active?.map Bank.memory) u.tables.standby.memory = false →
          t.request.lastKeepalive = none ∧ t.request.expired = false) := by
  have same {α : Type} (f : RequestEngine → α) (settled : ∀ r : RequestEngine, f r.settledParts = f r) : f t.request = f _ :=
    (settled _).symm.trans ((congrArg f took.request).trans (settled _))
  rw [same RequestEngine.mismatch fun _ => rfl, same RequestEngine.lastKeepalive fun _ => rfl, same RequestEngine.expired fun _ => rfl]
  cases stays : keepaliveStays (u.active?.map Bank.memory) u.tables.standby.memory with
  | true =>
    obtain ⟨mismatch, kept⟩ := u.request.takeSwitch_of_stays stays u.clock.own u.now
    exact ⟨mismatch, fun _ => kept, nofun⟩
  | false =>
    obtain ⟨mismatch, ended⟩ := u.request.takeSwitch_of_ends stays u.clock.own u.now
    exact ⟨mismatch, nofun, fun _ => ended⟩

theorem keepaliveStays_iff (o m : Memory) :
    keepaliveStays (some o) m = true ↔ o.issueValue? keywordTI = m.issueValue? keywordTI ∧ o.controlAddress? = m.controlAddress? := by
  simp [keepaliveStays]

theorem samePlan_iff (o m : Memory) :
    samePlan (some o) m = true ↔ o.sweepPeriod = m.sweepPeriod ∧ o.slice 32 320 = m.slice 32 320 := by
  simp [samePlan, show TableKind.positions.entryAt 0 = 32 from rfl]

/-! ### The positions (R19) -/

theorem State.ReadyToSwitch.position (ready : s.ReadyToSwitch u) {m : Memory}
    (positions : t.loop.positions = u.loop.positions.mapIdx fun p r => r.takeSwitch m p) (p : Nat) (hp : p < 32) :
    ∃ n, t.loop.position p = PositionRecord.takeSwitch m p { s.loop.position p with missed := n } := by
  obtain ⟨n, record⟩ := ready.records p hp
  have before : p < u.loop.positions.length := by rw [ready.length]; exact hp
  refine ⟨n, ?_⟩
  rw [← record, u.loop.position_eq_getElem p before, t.loop.position_eq_getElem p (by simp [positions, before])]
  simp [positions]

/-! ### The image (R97) -/

/-- The image once a switch has taken effect: terms as R97 has them, and an object with an input or a pair term at its fallback. -/
theorem State.TookSwitch.objects (took : u.TookSwitch t) {j : Nat} {o : ObjectState} (ho : t.evaluator.objects[j]? = some o) :
    (∀ tm ∈ o.terms, tm.freshOn t.evaluator.conditions)
      ∧ ((∃ tm ∈ o.terms, tm.source.kind ≠ .condition) →
          o.entry = { indication := (u.tables.standby.memory.objectEntry j).fallback, quality := .unknown }) := by
  have fresh := (State.freshTerms_iff t).mp took.fresh o (List.mem_of_getElem? ho)
  refine ⟨fresh, fun ⟨tm, htm, other⟩ => ?_⟩
  have image := (State.imageGood_iff t).mp took.image
  rw [took.activeMemory] at image
  obtain ⟨-, good⟩ := image
  obtain ⟨unknown, -⟩ := fresh tm htm
  exact (good j o ho).entry_of_unknown htm (unknown other).2

end

/-- The switch takes effect in each of the three ways that R157 and log entry 19 name. -/
theorem State.switchesTo_of_ways {s t : State} (length : s.loop.positions.length = 32)
    (way : (∃ x rest r counts, s.offers x rest 0x15 ∧ s.rightsOf x.source = .maintain ∧ s.checking = false ∧ s.tables.switchPending = false
        ∧ s.tables.standby.state = .checkedGood r counts ∧ x.content = toBytes 4 r.crc.toNat ∧ s.loop.inFlight = none
        ∧ (s.loop.state = .idle ∨ s.loop.state = .down) ∧ exec .switchTables s = .next t)
      ∨ ((∃ b, s.active? = some b) ∧ (∃ n, s.loop.sweepTimer = some n) ∧ s.tables.switchPending = true
        ∧ (s.loop.state = .survey ∨ s.loop.state = .running) ∧ exec .sweepDue s = .next t)
      ∨ ((∃ b, s.active? = some b) ∧ s.loop.restartDelay = some 0 ∧ s.loop.inFlight = none ∧ s.tables.switchPending = true
        ∧ s.loop.state = .survey ∧ exec .restartSurveyDelay s = .next t)) : s.switchesTo t := by
  rcases way with ⟨x, rest, r, counts, offered, rights, unchecked, unswitched, good, content, landed, still, ran⟩
    | ⟨⟨b, active⟩, ⟨n, timed⟩, pending, looping, ran⟩ | ⟨-, elapsed, landed, pending, surveying, ran⟩
  · exact State.switchTables_switchesTo offered rights unchecked unswitched good content landed still length ran
  · obtain rfl : s.sweepDue b = t := Host.Outcome.next.inj ((exec_sweepDue active timed).symm.trans ran)
    exact State.sweepDue_switchesTo pending looping length
  · exact State.restartSurveyDelay_switchesTo elapsed landed pending surveying length ran

/-- Settles O44: the switch takes effect in a state that the command leads to, and the rest of its event keeps what it leaves. -/
theorem switchTakesEffect : Obligations.SwitchTakesEffect := by
  rintro s t m third rfl rfl room length way
  obtain ⟨u, ready, took, positions, after⟩ := State.switchesTo_of_ways length way
  obtain ⟨mismatch, stays, ends⟩ := took.keepalive
  obtain ⟨first, later⟩ := took.timer_of_ready ready
  obtain ⟨sameKeepalive, -⟩ := ready.request
  rw [State.active_of_tables ready.tables, ready.tables] at stays ends
  have standby : u.tables.standby = s.tables.standby := congrArg TableStore.standby ready.tables
  refine ⟨took.tables_of_ready ready, took.queue_of_ready ready,
    fun landed => ⟨took.marker ready landed room, took.aborts ready landed⟩, took.outcomes_of_ready ready, ?_, ?_, took.inputs_unknown, ?_,
    took.pairs_unknown, ?_, took.unoccupied, State.commandedOn_of_unoccupied took.unoccupied, took.blocked, took.outputsHealthy,
    took.authority, took.noAuthority, took.reasons, took.changeover, mismatch, ?_, ?_, ?_, ?_, ?_, took.slicePointer, first, later, ?_,
    took.image, ?_, took.loopRunning, took.cardsHealthy, took.flasherOk, after.down, after.third, after.idle, ?_, after.sends,
    after.untold, after.answered, took.clock.trans ready.clock, took.pending.trans ready.pending⟩
  · rw [took.filter]
    rfl
  · rw [took.filter, standby, ContactFilter.startOn_keys]
  · rw [took.pairs, standby, startPairs_keys]
  · rw [took.flasher, standby]
    rfl
  · rw [took.proofs]
    exact Memory.proofSources_unknown _
  · intro q src small defined source
    rw [took.proofs, standby]
    exact Memory.proofSources_complete _ small defined source
  · intro b active issue address
    obtain ⟨last, expired⟩ := stays (by rw [active]; exact (keepaliveStays_iff _ _).mpr ⟨issue, address⟩)
    rw [last, expired, sameKeepalive, ready.clock]
    refine ⟨rfl, ?_⟩
    simp [Option.any_eq_true]
  · intro b active differs
    refine ends (Bool.eq_false_iff.mpr fun same => ?_)
    rw [active] at same
    obtain ⟨issue, address⟩ := (keepaliveStays_iff _ _).mp same
    exact differs.elim (absurd issue) (absurd address)
  · exact fun idle => ends (by rw [idle]; rfl)
  · rintro p hp before record rfl rfl
    obtain ⟨n, record⟩ := ready.position positions p hp
    rw [record]
    by_cases unexpected : s.tables.standby.memory.expectedType p = 0
    · rw [PositionRecord.takeSwitch_of_unexpected _ _ unexpected]
      exact ⟨rfl, rfl, fun _ => ⟨rfl, rfl, rfl, rfl⟩, fun expected => absurd unexpected expected⟩
    · rw [PositionRecord.takeSwitch_of_expected _ _ unexpected]
      exact ⟨rfl, rfl, fun none => absurd none unexpected, fun _ => ⟨rfl, rfl, rfl⟩⟩
  · intro j o ho
    rw [← standby]
    exact took.objects ho
  · intro b active looping few resurvey readmit
    rw [after.looping looping few resurvey readmit, active]
    simp only [Option.map_some, samePlan_iff]

end Sys2Proof.Machine
end
